-- ==== Sys2Proof/Word.lean ====
section
/-!
DEFINITION. The words the framer handles: the frame word and its fields, and the event record of the input port (rules R20, R90
of the spec). A sample position and a run count are natural numbers, whose widths `POS_W` and `CNT_W` are arguments of the model
(R8, R69, R216; log entry 1). Plain data; everything a repair could mend stands in later files.
-/

namespace Sys2Proof

/-- The frame word `W`: bit `i` is the `i`-th bit clocked (R9, R93). -/
abbrev FrameWord := BitVec 12

/-- The 8-bit byte field of a frame (R93). -/
abbrev ByteField := BitVec 8

/-- A slave address, `ADDR_W` bits (R67). -/
abbrev Addr := BitVec 6

/-- A slave-control register number, `REG_W` bits (R68). -/
abbrev RegNum := BitVec 4

/-- One byte of the image of an instruction word (log entry 9). -/
abbrev Byte := BitVec 8

/-- The edge classifier's state `cls` (R24). -/
inductive Cls where
  | observe
  | skipToFall
deriving DecidableEq, Repr

/-- The decoder state `dec` (R24). -/
inductive Dec where
  | search
  | inFrame
deriving DecidableEq, Repr

/-- One input event (R90): what the Signal Source delivers at an edge. A level or a trigger is `true` for 1. -/
structure Event where
  /-- the clock line changed level at this observation -/
  tc : Bool
  /-- the data line changed level at this observation -/
  td : Bool
  /-- the clock line's level after the change -/
  clk : Bool
  /-- the data line's level after the change -/
  data : Bool
  /-- a direction level is reported -/
  dv : Bool
  /-- the direction level, meaningful only with `dv`; 1 is peripheral-to-host -/
  dir : Bool
  /-- the current sample position, `POS_W` bits (R69, R90) -/
  pos : Nat
deriving DecidableEq, Repr

end Sys2Proof
end

