-- ==== Sys2Proof/Config.lean ====
section
/-!
DEFINITION. The parameters of rule R8 that are fixed for the machine, the defaults of the four OPEN parameters
(which State holds, log entries 1, 2), and the one free value of the model.
-/

namespace Sys2Proof.Config

/-- Bits in a frame (R8). -/
def frameLen : Nat := 12

/-- A clock pulse narrower than this many sample units is ignored (R8, R153). -/
def minPulse : Nat := 2

/-- The buffer length at which the direction level is examined (R8, R156). -/
def asicBitCount : Nat := 4

/-- Default of the OPEN parameter `POS_W`: the width of a sample position (R8, decision D24). -/
def posWDefault : Nat := 64

/-- Default of the OPEN parameter `CNT_W`: the width of the run counter (R8, decision D24). -/
def cntWDefault : Nat := 32

/-- Default of the OPEN parameter `RW_READ`: the level of `rw` that means Read (R8, decision D16). -/
def rwReadDefault : Bool := true

/-- Default of the OPEN parameter `NOISE_MASKS_CLK_RISE` (R8, decision D4). -/
def noiseMasksClkRiseDefault : Bool := true

/-- DESIGN CHOICE, safe (log entry 7): the position read from buffer entry `i` when that entry holds no value. R21 says
such an entry holds no value and that no rule reads it; a free value, with no body. -/
opaque emptyEntryPos (i : Nat) : Nat

end Sys2Proof.Config
end

