-- ==== Sys2Proof/Syntax.lean ====
section
/-!
DEFINITION. The instructions: one constructor per row of spec/opcode_table.json. The first six are the frame operations
(format FRAME12, R102), the other ten the event operations (format EVENT4, R91). The fields are the bits the row's mask
leaves free that some rule reads, and the operands the spec names: for an event `dv`, `dir`, `pos` (R91), for a frame the
position `end` of the completing clock fall (R171 to R173; log entry 8). Frame bits 2 and 11 are ignored by every Control
and Data operation (R103, R196(d)) and are no field (log entry 10).
-/

namespace Sys2Proof

/-- The instructions of the framer's two levels (R91, R102). -/
inductive Instr where
  /-- SRESET: Control frame, Select/Reset variant, reset of slave `addr` (R191). -/
  | sreset (addr : Addr) (endPos : Nat)
  /-- SSEL: Control frame, Select/Reset variant, select of slave `addr` (R192). -/
  | ssel (addr : Addr) (endPos : Nat)
  /-- SCTL: Control frame, Slave-Control variant (R193). -/
  | sctl (sm bw rw : Bool) (reg : RegNum) (endPos : Nat)
  /-- DATA: Data frame (R172, R210). -/
  | data (value : ByteField) (endPos : Nat)
  /-- NULL: the all-zero frame (R173). -/
  | null (endPos : Nat)
  /-- UNCLASSIFIED: a frame with first bit 0 that is not all zero (R174). -/
  | unclassified (raw : FrameWord) (endPos : Nat)
  /-- EV.SKIP_END: a clock fall while an interference is skipped, codes 1x0x (R131). -/
  | evSkipEnd (td data dv dir : Bool) (pos : Nat)
  /-- EV.SKIP_HOLD, row `tc = 0`: codes 0xxx while an interference is skipped (R131). -/
  | evSkipHoldNoClock (td clk data dv dir : Bool) (pos : Nat)
  /-- EV.SKIP_HOLD, row `tc = 1` and `clk = 1`: codes 1x1x while an interference is skipped (R131). -/
  | evSkipHoldClockHigh (td data dv dir : Bool) (pos : Nat)
  /-- EV.INTERFERENCE: code 1111 (R132). -/
  | evInterference (dv dir : Bool) (pos : Nat)
  /-- EV.NOISE: codes x110 (R133). -/
  | evNoise (tc dv dir : Bool) (pos : Nat)
  /-- EV.CLK_RISE: codes 101x, and 1110 when `NOISE_MASKS_CLK_RISE` is false (R133, R134). -/
  | evClkRise (td data dv dir : Bool) (pos : Nat)
  /-- EV.CLK_FALL: codes 1x0x (R135). -/
  | evClkFall (td data dv dir : Bool) (pos : Nat)
  /-- EV.DATA_ONLY, row `clk = 0`: codes 010x (R136). -/
  | evDataOnlyClockLow (data dv dir : Bool) (pos : Nat)
  /-- EV.DATA_ONLY, row 0111 (R136). -/
  | evDataOnlyClockHigh (dv dir : Bool) (pos : Nat)
  /-- EV.NONE: codes 00xx (R137). -/
  | evNone (clk data dv dir : Bool) (pos : Nat)
deriving DecidableEq, Repr

end Sys2Proof
end

