-- ==== Sys2Proof/WellFormed.lean ====
section
/-!
DEFINITION. Which instructions some word encodes: the conditions the opcode rows put on a field beyond its width, given the
parameter `NOISE_MASKS_CLK_RISE` (R102 row 6; R133 and the note of the table's EV.NOISE row).
-/

namespace Sys2Proof

/-- An UNCLASSIFIED word has first bit 0 and is not all zero (R102 row 6, R174). -/
def unclassifiedWord (w : FrameWord) : Bool :=
  !w.getLsbD 0 && w != 0

/-- The event code with `tc` is EV.NOISE: 0110 always, 1110 only when the filter masks the clock rise (R133). -/
def noiseCode (masks tc : Bool) : Bool :=
  !tc || masks

/-- The event code with `td`, `data` is EV.CLK_RISE: 101x always, 1110 only when the filter does not mask it (R133, R134). -/
def clkRiseCode (masks td data : Bool) : Bool :=
  !td || (!masks && !data)

/-- The instruction is encoded by some event or frame under the parameter `NOISE_MASKS_CLK_RISE = masks`. -/
def Instr.wellFormed (masks : Bool) : Instr → Bool
  | .sreset _ _ => true
  | .ssel _ _ => true
  | .sctl _ _ _ _ _ => true
  | .data _ _ => true
  | .null _ => true
  | .unclassified raw _ => unclassifiedWord raw
  | .evSkipEnd _ _ _ _ _ => true
  | .evSkipHoldNoClock _ _ _ _ _ _ => true
  | .evSkipHoldClockHigh _ _ _ _ _ => true
  | .evInterference _ _ _ => true
  | .evNoise tc _ _ _ => noiseCode masks tc
  | .evClkRise td level _ _ _ => clkRiseCode masks td level
  | .evClkFall _ _ _ _ _ => true
  | .evDataOnlyClockLow _ _ _ _ => true
  | .evDataOnlyClockHigh _ _ _ => true
  | .evNone _ _ _ _ _ => true

end Sys2Proof
end

