-- ==== Sys2Proof/Decode.lean ====
section
/-!
DEFINITION. Decoding of events and frames (R91, R102, R130, R170, R190) and, after it, the encoder (R105). The decode of an
event depends on `cls` and on the parameter `NOISE_MASKS_CLK_RISE`; the decode of a frame on the frame alone (R104, R170).
Both are total: every event code has one row in each classifier state, and no frame is illegal (R91, R103). Only the byte
image of an instruction word, a container of the model's own (log entry 9), can be refused, and it is refused by name.
-/

namespace Sys2Proof

/-! ### Field assembly (R101) -/

/-- `byte = W[10:3]`, which is also `value`: `BYTE_LO` is 3 and `BYTE_HI` 10 (R8, R101, R211). -/
def byteField (w : FrameWord) : ByteField := w.extractLsb' 3 8

/-- `addr = W[8:3]` (R94, R101). -/
def addrField (w : FrameWord) : Addr := w.extractLsb' 3 6

/-- `reg = W[6:3]` (R95, R101). -/
def regField (w : FrameWord) : RegNum := w.extractLsb' 3 4

/-- `sm = W[7]` (R95, R101). -/
def smField (w : FrameWord) : Bool := w.getLsbD 7

/-- `bw = W[8]` (R95, R101). -/
def bwField (w : FrameWord) : Bool := w.getLsbD 8

/-- `rw = W[9]` (R95, R101). -/
def rwField (w : FrameWord) : Bool := w.getLsbD 9

/-- `sel = W[9]`: 0 Reset, 1 Select (R94, R101). -/
def selField (w : FrameWord) : Bool := w.getLsbD 9

/-- `disc = W[10]`: 0 Select/Reset variant, 1 Slave-Control variant (R94, R95, R190). -/
def discField (w : FrameWord) : Bool := w.getLsbD 10

/-! ### Frames -/

/-- The classifier's result (R16, R170). -/
inductive FrameType where
  | control
  | data
  | null
  | unclassified
deriving DecidableEq, Repr

/-- `classify(W)` (R170): a function of `W` alone. -/
def classify (w : FrameWord) : FrameType :=
  if w.getLsbD 0 && !w.getLsbD 1 then .control
  else if w.getLsbD 0 && w.getLsbD 1 then .data
  else if w = 0 then .null
  else .unclassified

/-- The operation a Control word selects (R190). -/
def decodeControl (w : FrameWord) (endPos : Nat) : Instr :=
  if discField w then .sctl (smField w) (bwField w) (rwField w) (regField w) endPos
  else if selField w then .ssel (addrField w) endPos
  else .sreset (addrField w) endPos

/-- The frame operation of the completed frame `w` whose completing clock fall is at `endPos` (R102, R158, R170). -/
def decodeFrame (w : FrameWord) (endPos : Nat) : Instr :=
  match classify w with
  | .control => decodeControl w endPos
  | .data => .data (byteField w) endPos
  | .null => .null endPos
  | .unclassified => .unclassified w endPos

/-! ### Events -/

/-- The event code `E = tc ++ td ++ clk ++ data`, `tc` its bit 3 (R91). -/
def Event.code (ev : Event) : BitVec 4 :=
  BitVec.ofBool ev.tc ++ BitVec.ofBool ev.td ++ BitVec.ofBool ev.clk ++ BitVec.ofBool ev.data

/-- The event with code `code` and operands `dv`, `dir`, `pos` (R90, R91). -/
def Event.ofCode (code : BitVec 4) (dv dir : Bool) (pos : Nat) : Event :=
  { tc := code.getLsbD 3, td := code.getLsbD 2, clk := code.getLsbD 1, data := code.getLsbD 0
    dv := dv, dir := dir, pos := pos }

/-- The operation of an event while an interference is skipped (R130, R131). -/
def decodeSkipping (ev : Event) : Instr :=
  if ev.tc && !ev.clk then .evSkipEnd ev.td ev.data ev.dv ev.dir ev.pos
  else if ev.tc then .evSkipHoldClockHigh ev.td ev.data ev.dv ev.dir ev.pos
  else .evSkipHoldNoClock ev.td ev.clk ev.data ev.dv ev.dir ev.pos

/-- The operation of an event in the observing state, in the order of rule R130; `masks` is the parameter
`NOISE_MASKS_CLK_RISE` (R133). -/
def decodeObserving (masks : Bool) (ev : Event) : Instr :=
  if ev.tc && ev.td && ev.clk && ev.data then .evInterference ev.dv ev.dir ev.pos
  else if ev.td && !ev.data && ev.clk && noiseCode masks ev.tc then .evNoise ev.tc ev.dv ev.dir ev.pos
  else if ev.tc && ev.clk then .evClkRise ev.td ev.data ev.dv ev.dir ev.pos
  else if ev.tc && !ev.clk then .evClkFall ev.td ev.data ev.dv ev.dir ev.pos
  else if ev.td && ev.clk then .evDataOnlyClockHigh ev.dv ev.dir ev.pos
  else if ev.td then .evDataOnlyClockLow ev.data ev.dv ev.dir ev.pos
  else .evNone ev.clk ev.data ev.dv ev.dir ev.pos

/-- The operation of an event (R91, R130). -/
def decodeEvent (masks : Bool) (cls : Cls) (ev : Event) : Instr :=
  match cls with
  | .skipToFall => decodeSkipping ev
  | .observe => decodeObserving masks ev

/-- An encoded instruction: an event, or a completed frame with the position of its completing clock fall. -/
inductive Code where
  | event (ev : Event)
  | frame (w : FrameWord) (endPos : Nat)
deriving DecidableEq, Repr

/-- Decoding, total on every code (R91, R103). -/
def decode (masks : Bool) (cls : Cls) : Code → Instr
  | .event ev => decodeEvent masks cls ev
  | .frame w endPos => decodeFrame w endPos

/-! ### The byte image of an instruction word (DESIGN CHOICE, safe, log entry 9) -/

/-- Why a byte image is no instruction word. -/
inductive DecodeError where
  /-- neither one byte (an event code) nor two (a frame word) -/
  | noSuchLength
  /-- a bit above the 4 bits of the event code is set -/
  | bitsAboveEventCode
  /-- a bit above the 12 bits of the frame word is set -/
  | bitsAboveFrameWord
deriving DecidableEq, Repr

/-- The code a byte image holds: one byte with the event code in its low 4 bits, or two bytes with the frame word in their
low 12 bits, low byte first. The operands stand beside the word: `pos` is the event's position or the frame's `end`. -/
def readImage (dv dir : Bool) (pos : Nat) : List Byte → Except DecodeError Code
  | [b] =>
    if b.extractLsb' 4 4 = 0 then .ok (.event (.ofCode (b.extractLsb' 0 4) dv dir pos)) else .error .bitsAboveEventCode
  | [b0, b1] =>
    if b1.extractLsb' 4 4 = 0 then .ok (.frame (b1.extractLsb' 0 4 ++ b0) pos) else .error .bitsAboveFrameWord
  | _ => .error .noSuchLength

/-- Decoding of a byte image, total, refusing by name. -/
def decodeBytes (masks : Bool) (cls : Cls) (dv dir : Bool) (pos : Nat) (bytes : List Byte) : Except DecodeError Instr :=
  (readImage dv dir pos bytes).map (decode masks cls)

/-- The low `n` bytes of `w`, least significant first. -/
def bytesOf : Nat → Nat → List Byte
  | 0, _ => []
  | n + 1, w => BitVec.ofNat 8 w :: bytesOf n (w / 256)

/-- The position operand that goes with a table word: 0 for an event (an operand word of zeros); for a frame, which no
word's bits give, the earliest position at which a frame can complete after a pulse that rose at 0 (log entries 8, 11). -/
def tableWordPos (nbits : Nat) : Nat :=
  if nbits ≤ 8 then 0 else Config.minPulse

/-- The code of an opcode-table word of `nbits` bits, the operands `dv`, `dir` 0. -/
def tableCode (nbits w : Nat) : Option Code :=
  (readImage false false (tableWordPos nbits) (bytesOf ((nbits + 7) / 8) w)).toOption

/-- The instruction the decoder reads from an opcode-table word, in the state after reset: `cls` is OBSERVE and
`NOISE_MASKS_CLK_RISE` its default (log entry 9). -/
def decodeTableWord (nbits w : Nat) : Option Instr :=
  (tableCode nbits w).map (decode Config.noiseMasksClkRiseDefault .observe)

/-! ### The encoder -/

/-- A field of the frame word: `v` moved to frame bit `lo` (R105). -/
def placeField {n : Nat} (v : BitVec n) (lo : Nat) : FrameWord := v.setWidth 12 <<< lo

/-- The word or event of an instruction. Frames are R105's canonical words, with frame bits 2 and 11 zero (R103(b), D32). -/
def encode : Instr → Code
  | .sreset addr e => .frame (0x001 ||| placeField addr 3) e
  | .ssel addr e => .frame (0x201 ||| placeField addr 3) e
  | .sctl sm bw rw reg e =>
    .frame (0x401 ||| placeField reg 3 ||| placeField (BitVec.ofBool sm) 7 ||| placeField (BitVec.ofBool bw) 8
      ||| placeField (BitVec.ofBool rw) 9) e
  | .data value e => .frame (0x003 ||| placeField value 3) e
  | .null e => .frame 0x000 e
  | .unclassified raw e => .frame raw e
  | .evSkipEnd td data dv dir pos => .event ⟨true, td, false, data, dv, dir, pos⟩
  | .evSkipHoldNoClock td clk data dv dir pos => .event ⟨false, td, clk, data, dv, dir, pos⟩
  | .evSkipHoldClockHigh td data dv dir pos => .event ⟨true, td, true, data, dv, dir, pos⟩
  | .evInterference dv dir pos => .event ⟨true, true, true, true, dv, dir, pos⟩
  | .evNoise tc dv dir pos => .event ⟨tc, true, true, false, dv, dir, pos⟩
  | .evClkRise td data dv dir pos => .event ⟨true, td, true, data, dv, dir, pos⟩
  | .evClkFall td data dv dir pos => .event ⟨true, td, false, data, dv, dir, pos⟩
  | .evDataOnlyClockLow data dv dir pos => .event ⟨false, true, false, data, dv, dir, pos⟩
  | .evDataOnlyClockHigh dv dir pos => .event ⟨false, true, true, true, dv, dir, pos⟩
  | .evNone clk data dv dir pos => .event ⟨false, false, clk, data, dv, dir, pos⟩

/-- The classifier state in which an instruction's row decodes; the frame rows decode in either (R91, R104). -/
def Instr.clsOf : Instr → Option Cls
  | .sreset _ _ => none
  | .ssel _ _ => none
  | .sctl _ _ _ _ _ => none
  | .data _ _ => none
  | .null _ => none
  | .unclassified _ _ => none
  | .evSkipEnd _ _ _ _ _ => some .skipToFall
  | .evSkipHoldNoClock _ _ _ _ _ _ => some .skipToFall
  | .evSkipHoldClockHigh _ _ _ _ _ => some .skipToFall
  | .evInterference _ _ _ => some .observe
  | .evNoise _ _ _ _ => some .observe
  | .evClkRise _ _ _ _ _ => some .observe
  | .evClkFall _ _ _ _ _ => some .observe
  | .evDataOnlyClockLow _ _ _ _ => some .observe
  | .evDataOnlyClockHigh _ _ _ => some .observe
  | .evNone _ _ _ _ _ => some .observe

/-- The row `i` belongs to is one the decoder reads while the classifier is in `cls`. -/
def Instr.inCls (cls : Cls) (i : Instr) : Bool :=
  i.clsOf == none || i.clsOf == some cls

end Sys2Proof
end

