-- ==== Sys2Proof/Machine/State.lean ====
section
/-!
DEFINITION. The state of one framer instance (R20), the output record (R96 to R98), the reasons a step can stop, and the
machine right after reset (R50, R260).
-/

namespace Sys2Proof.Machine

/-- No fault exists: "No rule raises" (R12), and anomalies are "not reported as faults" (R230). A closed inductive with no
constructor, so that no step can fault. DEDUCED, safe to rely on only as far as R230's list is complete (log entry 14). -/
inductive Fault where
deriving DecidableEq, Repr

/-- Why an instruction is refused. -/
inductive Refusal where
  /-- raised by an arm of `exec` whose instruction has no meaning in this model; safe: the machine stops where the hardware
  goes on. No arm of this model raises it. -/
  | notModelled (mnemonic : String)
deriving DecidableEq, Repr

/-- What a record says: its kind and its numeric payload (R97, R98). Code 0 to 17 in this order. -/
inductive RecordBody where
  /-- a clock pulse -/
  | clk
  /-- a bit, with its value -/
  | bit (value : Bool)
  /-- a Control frame -/
  | ctrlFrame
  /-- a Data frame -/
  | dataFrame
  /-- the Select/Reset variant: 0 Reset, 1 Select -/
  | selRst (sel : Bool)
  /-- the numeric slave address -/
  | slaveAddr (addr : Addr)
  /-- the Slave-Control variant -/
  | sctl
  /-- the numeric register number -/
  | regNum (reg : RegNum)
  /-- a data value, "ordinary host-direction data" -/
  | dataHost (value : ByteField)
  /-- a data value, "peripheral-to-host data" -/
  | dataAsic (value : ByteField)
  /-- a data value, "guessed peripheral data" -/
  | dataGuess (value : ByteField)
  /-- a Null frame -/
  | nullFrame
  /-- the count of a closed run -/
  | runCount (count : Nat)
  /-- mode label single/multi -/
  | modeSm (sm : Bool)
  /-- mode label byte/word -/
  | modeBw (bw : Bool)
  /-- mode label read/write -/
  | modeRw (rw : Bool)
  /-- the combined summary of the mode labels -/
  | modeSummary (sm bw rw : Bool) (reg : RegNum)
  /-- the raw-frame diagnostic -/
  | rawFrame (w : FrameWord)
deriving DecidableEq, Repr

/-- One output record (R96): start sample, end sample, kind and payload. -/
structure Record where
  ss : Nat
  es : Nat
  body : RecordBody
deriving DecidableEq, Repr

/-- One entry of the frame buffer: a bit and the start of its clock pulse (R21, R30). -/
structure Entry where
  bit : Bool
  pos : Nat
deriving DecidableEq, Repr

/-- The four configuration bits (R40). -/
structure Options where
  showClk : Bool
  showBit : Bool
  showDebug : Bool
  showGuess : Bool
deriving DecidableEq, Repr

/-- The Control Context (R27, R28, R41, R42). -/
structure ControlContext where
  /-- following data frames are expected from the peripheral (R27) -/
  expectAsic : Bool
  /-- `curReg` holds a register number (R41) -/
  curRegValid : Bool
  /-- current slave-control register number (R41) -/
  curReg : RegNum
  /-- a run of data frames is open (R28) -/
  runOpen : Bool
  /-- data frames in the open run, `CNT_W` bits, saturating (R42, R216) -/
  runCount : Nat
  /-- start sample of the first data frame of the run, `POS_W` bits (R42) -/
  runStart : Nat
  /-- end sample of the last data frame of the run, `POS_W` bits (R42) -/
  runEnd : Nat
deriving DecidableEq, Repr

/-- The OPEN parameters of R8, which a model takes as arguments. They stand in State because a step has no other argument; no
step writes them (DESIGN CHOICE, safe, log entries 1, 2). -/
structure Params where
  /-- `POS_W`: every position of a session is below `2^POS_W` (D24, U3) -/
  posW : Nat
  /-- `CNT_W`: the run counter saturates at `2^CNT_W - 1` (D24, R216) -/
  cntW : Nat
  /-- `RW_READ`: the level of `rw` that means Read (D16) -/
  rwRead : Bool
  /-- `NOISE_MASKS_CLK_RISE`: the noise filter drops a coincident clock rise too (D4) -/
  noiseMasksClkRise : Bool
deriving DecidableEq, Repr

/-- The state of one framer instance (R20). `par`, `input` and `output` are the model's own fields (log entries 2 to 4). -/
structure State where
  /-- whether an interference is being skipped (R24) -/
  cls : Cls
  /-- data level sampled at the last delivered clock rise (R22) -/
  curBit : Bool
  /-- sample position of the last delivered clock rise, `POS_W` bits (R22) -/
  pulseStart : Nat
  /-- the valid entries of `fb_bit`, `fb_pos`, oldest first; `fb_len` is the length (R21, R30; log entry 6) -/
  fb : List Entry
  /-- Decoder State (R24) -/
  dec : Dec
  /-- position marked by the last start condition, `POS_W` bits (R23) -/
  frameStart : Nat
  /-- frame in progress was marked ASIC-originated (R26) -/
  asicFlag : Bool
  /-- the Control Context -/
  ctx : ControlContext
  /-- the configuration bits (R40) -/
  opts : Options
  /-- the OPEN parameters -/
  par : Params
  /-- events delivered by the Signal Source and not yet taken, in arrival order (R70) -/
  input : List Event
  /-- records emitted so far, in emission order (R70) -/
  output : List Record
deriving DecidableEq, Repr

/-- Configuration bits at reset (R50, decision D23). -/
def Options.reset : Options := { showClk := false, showBit := false, showDebug := false, showGuess := false }

/-- Control Context at reset (R50; `runOpen`, `runCount` from the source, the rest decision D22). -/
def ControlContext.reset : ControlContext :=
  { expectAsic := false, curRegValid := false, curReg := 0, runOpen := false, runCount := 0, runStart := 0, runEnd := 0 }

/-- The OPEN parameters' defaults (R8). -/
def Params.default : Params :=
  { posW := Config.posWDefault, cntW := Config.cntWDefault, rwRead := Config.rwReadDefault, noiseMasksClkRise := Config.noiseMasksClkRiseDefault }

/-- The machine right after reset (R50, R260), with nothing delivered and nothing emitted. -/
def State.reset : State :=
  { cls := .observe, curBit := false, pulseStart := 0, fb := [], dec := .search, frameStart := 0, asicFlag := false
    ctx := ControlContext.reset, opts := Options.reset, par := Params.default, input := [], output := [] }

end Sys2Proof.Machine
end

