-- ==== Sys2Proof/Machine/Ops.lean ====
section
/-!
DEFINITION. The named operations over the state: emitting records, the frame buffer, the sampling of a pulse, entering and
leaving resynchronisation and the interference skip (R242 to R244, the framer's counterpart of taking an exception and
returning from one), and the run registers.
-/

namespace Sys2Proof.Machine

/-! ### Records (R96 to R98, R100) -/

/-- The code of a record's kind (R97). -/
def RecordBody.code : RecordBody → BitVec 5
  | .clk => 0
  | .bit _ => 1
  | .ctrlFrame => 2
  | .dataFrame => 3
  | .selRst _ => 4
  | .slaveAddr _ => 5
  | .sctl => 6
  | .regNum _ => 7
  | .dataHost _ => 8
  | .dataAsic _ => 9
  | .dataGuess _ => 10
  | .nullFrame => 11
  | .runCount _ => 12
  | .modeSm _ => 13
  | .modeBw _ => 14
  | .modeRw _ => 15
  | .modeSummary _ _ _ _ => 16
  | .rawFrame _ => 17

/-- Append records to the output stream, the first emitted first (R70, R96). -/
def State.emit (s : State) (rs : List Record) : State := { s with output := s.output ++ rs }

/-- The records, where the configuration bit asks for them (R74: the bit is read when the record would be emitted). -/
def recordsIf (shown : Bool) (rs : List Record) : List Record := if shown then rs else []

/-! ### The frame buffer (R21, R30) -/

/-- `fb_len` (R24). -/
def State.fbLen (s : State) : Nat := s.fb.length

/-- `fb_pos[i]` (R30). An entry at or above `fb_len` holds no value (R21): the free value of log entry 7. -/
def State.fbPos (s : State) (i : Nat) : Nat := ((s.fb[i]?).map Entry.pos).getD (Config.emptyEntryPos i)

/-- The fold of a bit sequence, the first bit least significant (R13). -/
def foldBits : List Bool → Nat
  | [] => 0
  | b :: bs => b.toNat + 2 * foldBits bs

/-- The frame word `W = sum of fb_bit[i] * 2^i` (R9, R21, R158). -/
def State.frameWord (s : State) : FrameWord := BitVec.ofNat 12 (foldBits (s.fb.map Entry.bit))

/-- Append `cur_bit` with `pulse_start` at index `fb_len` (R154). -/
def State.append (s : State) : State := { s with fb := s.fb ++ [{ bit := s.curBit, pos := s.pulseStart }] }

/-- Drop entries from the front until at most `FRAME_LEN` remain (R157). -/
def State.clamp (s : State) : State := { s with fb := s.fb.drop (s.fb.length - Config.frameLen) }

/-- `fb_len <- 0` (R151, R159). -/
def State.clearBuffer (s : State) : State := { s with fb := [] }

/-! ### The pulse registers (R22) -/

/-- Sample the data level and remember the start of the pulse (R150). -/
def State.sample (s : State) (data : Bool) (pos : Nat) : State := { s with curBit := data, pulseStart := pos }

/-- The pulse is narrower than `MIN_PULSE`: its width on mathematical integers, a negative width included (R153). -/
def narrowPulse (start pos : Nat) : Bool := (pos : Int) - (start : Int) < (Config.minPulse : Int)

/-! ### Resynchronisation and the interference skip (R242 to R244) -/

/-- Enter SEARCH: nothing is saved, the buffer and the Control Context are kept (R173, R242). -/
def State.enterSearch (s : State) : State := { s with dec := .search }

/-- The start condition holds at a delivered clock rise (R151). -/
def State.startsFrame (s : State) (data : Bool) : Bool := (s.dec == .search && data) || s.fb.isEmpty

/-- Leave SEARCH, or begin the next frame: mark the start, empty the buffer, go to INFRAME (R151, R243). -/
def State.startFrame (s : State) (pos : Nat) : State := { s with frameStart := pos, fb := [], dec := .inFrame }

/-- Begin skipping an interference (R132, R242). -/
def State.enterSkip (s : State) : State := { s with cls := .skipToFall }

/-- The clock fall that ends the skip (R131, R243). -/
def State.leaveSkip (s : State) : State := { s with cls := .observe }

/-! ### Runs of data frames (R42, R213 to R216) -/

/-- The RUN_COUNT record of the open run (R98, R214). -/
def ControlContext.runRecord (c : ControlContext) : Record :=
  { ss := c.runStart, es := c.runEnd, body := .runCount c.runCount }

/-- The run registers after closing the run; `run_end` is left as it is (R214). -/
def ControlContext.clearRun (c : ControlContext) : ControlContext :=
  if c.runOpen then { c with runOpen := false, runCount := 0, runStart := 0 } else c

/-- `CloseRun()` (R214): the record of an open run, then the run registers cleared. -/
def State.closeRun (s : State) : State :=
  { s with ctx := s.ctx.clearRun, output := s.output ++ recordsIf s.ctx.runOpen [s.ctx.runRecord] }

/-- Open a run at `start` if none is open (R213). -/
def ControlContext.openRun (c : ControlContext) (start : Nat) : ControlContext :=
  if c.runOpen then c else { c with runStart := start, runOpen := true }

/-- `min(n + 1, 2^CNT_W - 1)` (R216). -/
def saturatingSucc (cntW : Nat) (n : Nat) : Nat := min (n + 1) (2 ^ cntW - 1)

/-- Advance the run: its end and its count, which is `cntW` bits wide (R215, R216). -/
def ControlContext.advanceRun (c : ControlContext) (cntW : Nat) (endPos : Nat) : ControlContext :=
  { c with runEnd := endPos, runCount := saturatingSucc cntW c.runCount }

/-- The Control Context after a Data frame that started at `start` and ended at `endPos` (R210, R213, R215). -/
def State.countDataFrame (s : State) (endPos : Nat) : State :=
  { s with ctx := (s.ctx.openRun s.frameStart).advanceRun s.par.cntW endPos }

end Sys2Proof.Machine
end

