-- ==== Sys2Proof/Machine/Operands.lean ====
section
/-!
DEFINITION. The operand forms of the frame operations: the spans of frame bits (R98) and the records whose spans and payloads
they make.
-/

namespace Sys2Proof.Machine

/-- A record that spans the full frame: `frame_start` to `end` (R98). -/
def State.frameRecord (s : State) (endPos : Nat) (body : RecordBody) : Record :=
  { ss := s.frameStart, es := endPos, body := body }

/-- The end sample of frame bits up to `hi`: the pulse start of the next bit, or `end` after bit 11 (R98). -/
def State.spanEnd (s : State) (hi : Nat) (endPos : Nat) : Nat := if hi < 11 then s.fbPos (hi + 1) else endPos

/-- A record that spans frame bits `lo..hi` (R98). -/
def State.spanRecord (s : State) (lo hi : Nat) (endPos : Nat) (body : RecordBody) : Record :=
  { ss := s.fbPos lo, es := s.spanEnd hi endPos, body := body }

/-- A record that spans the pulse that ends at `pos` (R98, R155). -/
def State.pulseRecord (s : State) (pos : Nat) (body : RecordBody) : Record :=
  { ss := s.pulseStart, es := pos, body := body }

/-- The records of the Select/Reset variant (R191, R192). -/
def State.selRstRecords (s : State) (sel : Bool) (addr : Addr) (endPos : Nat) : List Record :=
  [s.frameRecord endPos (.selRst sel), s.spanRecord 3 8 endPos (.slaveAddr addr)]

/-- The records of the Slave-Control variant (R193). -/
def State.sctlRecords (s : State) (sm bw rw : Bool) (reg : RegNum) (endPos : Nat) : List Record :=
  [s.frameRecord endPos .sctl, s.spanRecord 3 6 endPos (.regNum reg), s.spanRecord 7 7 endPos (.modeSm sm),
    s.spanRecord 8 8 endPos (.modeBw bw), s.spanRecord 9 9 endPos (.modeRw rw),
    s.spanRecord 3 10 endPos (.modeSummary sm bw rw reg)]

end Sys2Proof.Machine
end

