-- ==== Sys2Proof/Machine/Flags.lean ====
section
/-!
DEFINITION. The flags (R26 to R29): `asic_flag`, `expect_asic`, `cur_reg_valid` with `cur_reg`, and the channel of a data
value, which reads them.
-/

namespace Sys2Proof.Machine

/-- The direction test, made on the length after the append: direction available, fourth bit just stored, level
peripheral-to-host (R156). -/
def State.directionMarks (s : State) (dv dir : Bool) : Bool := dv && s.fb.length == Config.asicBitCount && dir

/-- Mark the frame ASIC-originated where the direction test holds; never cleared here (R156). -/
def State.markDirection (s : State) (dv dir : Bool) : State :=
  { s with asicFlag := s.asicFlag || s.directionMarks dv dir }

/-- `asic_flag <- 0`, after a Data frame (R26, R210). -/
def State.clearAsicFlag (s : State) : State := { s with asicFlag := false }

/-- `expect_asic` after SRESET: 0 (R194). -/
def sresetExpects : Bool := false

/-- `expect_asic` after SSEL: 1 unless the address is 0, the deselect (R192, R194). -/
def sselExpects (addr : Addr) : Bool := addr != 0

/-- `expect_asic` after SCTL: 1 where `rw` is at the level that means Read (R193, R194). -/
def sctlExpects (par : Params) (rw : Bool) : Bool := rw == par.rwRead

/-- The Control Context writes of SRESET and SSEL: `expect_asic`, and `cur_reg_valid <- 0` with `cur_reg` kept (R194, R195). -/
def State.selRstContext (s : State) (expect : Bool) : State :=
  { s with ctx := { s.ctx with expectAsic := expect, curRegValid := false } }

/-- The Control Context writes of SCTL (R194, R195). -/
def State.sctlContext (s : State) (expect : Bool) (reg : RegNum) : State :=
  { s with ctx := { s.ctx with expectAsic := expect, curReg := reg, curRegValid := true } }

/-- The record body of a data value: one of three channels, chosen by priority (R212). -/
def State.dataChannel (s : State) (value : ByteField) : RecordBody :=
  if s.asicFlag then .dataAsic value
  else if s.ctx.expectAsic && s.opts.showGuess then .dataGuess value
  else .dataHost value

end Sys2Proof.Machine
end

