-- ==== Sys2Proof/Machine/Control.lean ====
section
/-!
DEFINITION. The Control frames SRESET, SSEL and SCTL: the frame-level part (R171) around the field decoding (R190 to R195).
-/

namespace Sys2Proof.Machine

/-- CONTROL (R171): CTRL_FRAME, then the closing of an open run, then the fields' records and Control Context writes, then
the buffer cleared. -/
def State.controlFrame (s : State) (endPos : Nat) (fields : State → State) : State :=
  (fields ((s.emit [s.frameRecord endPos .ctrlFrame]).closeRun)).clearBuffer

/-- The fields of SRESET (R191). -/
def State.sresetFields (s : State) (addr : Addr) (endPos : Nat) : State :=
  (s.emit (s.selRstRecords false addr endPos)).selRstContext sresetExpects

/-- The fields of SSEL (R192). -/
def State.sselFields (s : State) (addr : Addr) (endPos : Nat) : State :=
  (s.emit (s.selRstRecords true addr endPos)).selRstContext (sselExpects addr)

/-- The fields of SCTL (R193). -/
def State.sctlFields (s : State) (sm bw rw : Bool) (reg : RegNum) (endPos : Nat) : State :=
  (s.emit (s.sctlRecords sm bw rw reg endPos)).sctlContext (sctlExpects s.par rw) reg

/-- A completed SRESET frame (R171, R191). -/
def State.sresetFrame (s : State) (addr : Addr) (endPos : Nat) : State :=
  s.controlFrame endPos (fun t => t.sresetFields addr endPos)

/-- A completed SSEL frame (R171, R192). -/
def State.sselFrame (s : State) (addr : Addr) (endPos : Nat) : State :=
  s.controlFrame endPos (fun t => t.sselFields addr endPos)

/-- A completed SCTL frame (R171, R193). -/
def State.sctlFrame (s : State) (sm bw rw : Bool) (reg : RegNum) (endPos : Nat) : State :=
  s.controlFrame endPos (fun t => t.sctlFields sm bw rw reg endPos)

/-- SRESET (R191). -/
def execSreset (addr : Addr) (endPos : Nat) (s : State) : Host.Outcome State Fault Refusal :=
  .next (s.sresetFrame addr endPos)

/-- SSEL (R192). -/
def execSsel (addr : Addr) (endPos : Nat) (s : State) : Host.Outcome State Fault Refusal :=
  .next (s.sselFrame addr endPos)

/-- SCTL (R193). -/
def execSctl (sm bw rw : Bool) (reg : RegNum) (endPos : Nat) (s : State) : Host.Outcome State Fault Refusal :=
  .next (s.sctlFrame sm bw rw reg endPos)

end Sys2Proof.Machine
end

