-- ==== Sys2Proof/Machine/Data.lean ====
section
/-!
DEFINITION. The Data frame: its value, its channel and the accounting of the run it belongs to (R172, R210 to R216).
-/

namespace Sys2Proof.Machine

/-- A completed Data frame (R172, R210): DATA_FRAME, the value on its channel, `asic_flag` cleared after it is read, the run
opened if none is open and advanced, the buffer cleared. -/
def State.dataFrame (s : State) (value : ByteField) (endPos : Nat) : State :=
  (((s.emit [s.frameRecord endPos .dataFrame, s.spanRecord 3 10 endPos (s.dataChannel value)]).clearAsicFlag).countDataFrame
    endPos).clearBuffer

/-- DATA (R172, R210). -/
def execData (value : ByteField) (endPos : Nat) (s : State) : Host.Outcome State Fault Refusal :=
  .next (s.dataFrame value endPos)

end Sys2Proof.Machine
end

