-- ==== Sys2Proof/Machine/FrameClass.lean ====
section
/-!
DEFINITION. The frames NULL and UNCLASSIFIED (R173 to R175), and the completion of a frame: the operation its word selects is
performed in the same step (R158, R159, R170).
-/

namespace Sys2Proof.Machine

/-- A completed Null frame (R173): one marker at the current sample, and SEARCH; the twelve zeros stay in the buffer. -/
def State.nullFrame (s : State) (endPos : Nat) : State :=
  (s.emit [{ ss := endPos, es := endPos, body := .nullFrame }]).enterSearch

/-- A completed Unclassified frame (R174): the raw dump where `show_debug` asks for it, and the buffer cleared unless the
decoder is already in SEARCH (R175). -/
def State.unclassifiedFrame (s : State) (raw : FrameWord) (endPos : Nat) : State :=
  let t := s.emit (recordsIf s.opts.showDebug [s.frameRecord endPos (.rawFrame raw)])
  if t.dec = .search then t else t.clearBuffer

/-- NULL (R173). -/
def execNull (endPos : Nat) (s : State) : Host.Outcome State Fault Refusal :=
  .next (s.nullFrame endPos)

/-- UNCLASSIFIED (R174). -/
def execUnclassified (raw : FrameWord) (endPos : Nat) (s : State) : Host.Outcome State Fault Refusal :=
  .next (s.unclassifiedFrame raw endPos)

/-- `DecodeControl(W)` within a completed Control frame (R171, R190). -/
def State.completeControl (s : State) (w : FrameWord) (endPos : Nat) : State :=
  if discField w then s.sctlFrame (smField w) (bwField w) (rwField w) (regField w) endPos
  else if selField w then s.sselFrame (addrField w) endPos
  else s.sresetFrame (addrField w) endPos

/-- `Complete(ev)` (R158): classify the frame word and perform the operation of its type. -/
def State.complete (s : State) (endPos : Nat) : State :=
  match classify s.frameWord with
  | .control => s.completeControl s.frameWord endPos
  | .data => s.dataFrame (byteField s.frameWord) endPos
  | .null => s.nullFrame endPos
  | .unclassified => s.unclassifiedFrame s.frameWord endPos

end Sys2Proof.Machine
end

