-- ==== Sys2Proof/Machine/Assembly.lean ====
section
/-!
DEFINITION. The bit assembler: ClockRise (R150, R151) and ClockFall (R152 to R159).
-/

namespace Sys2Proof.Machine

/-- `ClockRise(ev)` (R150): sample the bit, then evaluate the start condition (R151). -/
def State.clockRise (s : State) (data : Bool) (pos : Nat) : State :=
  let t := s.sample data pos
  if t.startsFrame data then t.startFrame pos else t

/-- The part of `ClockFall(ev)` before the test for completion, on an accepted pulse (R152, R154 to R157): CLK, append, BIT,
direction mark, clamp. -/
def State.acceptPulse (s : State) (dv dir : Bool) (pos : Nat) : State :=
  let t := s.emit (recordsIf s.opts.showClk [s.pulseRecord pos .clk])
  let u := t.append.emit (recordsIf s.opts.showBit [s.pulseRecord pos (.bit s.curBit)])
  (u.markDirection dv dir).clamp

/-- `ClockFall(ev)` (R152): nothing on a pulse that is too narrow (R153); else accept it and, at twelve bits, complete the
frame (R158). -/
def State.clockFall (s : State) (dv dir : Bool) (pos : Nat) : State :=
  if narrowPulse s.pulseStart pos then s
  else
    let t := s.acceptPulse dv dir pos
    if t.fb.length = Config.frameLen then t.complete pos else t

end Sys2Proof.Machine
end

