-- ==== Sys2Proof/Machine/Edge.lean ====
section
/-!
DEFINITION. The edge classifier's operations (R131 to R137). Only EV.CLK_RISE and EV.CLK_FALL deliver anything to the bit
assembler (R130). Each row of the opcode table has a definition of its own.
-/

namespace Sys2Proof.Machine

/-- EV.SKIP_END (R131): the clock fall that ends the skip is consumed; no bit is appended. -/
def execEvSkipEnd (s : State) : Host.Outcome State Fault Refusal := .next s.leaveSkip

/-- EV.SKIP_HOLD, row `tc = 0` (R131): nothing. -/
def execEvSkipHoldNoClock (s : State) : Host.Outcome State Fault Refusal := .next s

/-- EV.SKIP_HOLD, row `tc = 1`, `clk = 1` (R131): nothing. -/
def execEvSkipHoldClockHigh (s : State) : Host.Outcome State Fault Refusal := .next s

/-- EV.INTERFERENCE (R132): the skip begins; the clock rise is not delivered. Anomaly A1. -/
def execEvInterference (s : State) : Host.Outcome State Fault Refusal := .next s.enterSkip

/-- EV.NOISE (R133): no state is written. Anomaly A2. -/
def execEvNoise (s : State) : Host.Outcome State Fault Refusal := .next s

/-- EV.CLK_RISE (R134): ClockRise. -/
def execEvClkRise (data : Bool) (pos : Nat) (s : State) : Host.Outcome State Fault Refusal :=
  .next (s.clockRise data pos)

/-- EV.CLK_FALL (R135): ClockFall. The data level at the fall is not used. -/
def execEvClkFall (dv dir : Bool) (pos : Nat) (s : State) : Host.Outcome State Fault Refusal :=
  .next (s.clockFall dv dir pos)

/-- EV.DATA_ONLY, row `clk = 0` (R136): nothing. -/
def execEvDataOnlyClockLow (s : State) : Host.Outcome State Fault Refusal := .next s

/-- EV.DATA_ONLY, row 0111 (R136): nothing. -/
def execEvDataOnlyClockHigh (s : State) : Host.Outcome State Fault Refusal := .next s

/-- EV.NONE (R137): nothing. -/
def execEvNone (s : State) : Host.Outcome State Fault Refusal := .next s

end Sys2Proof.Machine
end

