-- ==== Sys2Proof/Machine/Dispatch.lean ====
section
/-!
DEFINITION. One arm per instruction.
-/

namespace Sys2Proof.Machine

def exec (i : Instr) (s : State) : Host.Outcome State Fault Refusal :=
  match i with
  | .sreset addr endPos => Sys2Proof.Machine.execSreset addr endPos s
  | .ssel addr endPos => Sys2Proof.Machine.execSsel addr endPos s
  | .sctl sm bw rw reg endPos => Sys2Proof.Machine.execSctl sm bw rw reg endPos s
  | .data value endPos => Sys2Proof.Machine.execData value endPos s
  | .null endPos => Sys2Proof.Machine.execNull endPos s
  | .unclassified raw endPos => Sys2Proof.Machine.execUnclassified raw endPos s
  | .evSkipEnd _ _ _ _ _ => Sys2Proof.Machine.execEvSkipEnd s
  | .evSkipHoldNoClock _ _ _ _ _ _ => Sys2Proof.Machine.execEvSkipHoldNoClock s
  | .evSkipHoldClockHigh _ _ _ _ _ => Sys2Proof.Machine.execEvSkipHoldClockHigh s
  | .evInterference _ _ _ => Sys2Proof.Machine.execEvInterference s
  | .evNoise _ _ _ _ => Sys2Proof.Machine.execEvNoise s
  | .evClkRise _ data _ _ pos => Sys2Proof.Machine.execEvClkRise data pos s
  | .evClkFall _ _ dv dir pos => Sys2Proof.Machine.execEvClkFall dv dir pos s
  | .evDataOnlyClockLow _ _ _ _ => Sys2Proof.Machine.execEvDataOnlyClockLow s
  | .evDataOnlyClockHigh _ _ _ => Sys2Proof.Machine.execEvDataOnlyClockHigh s
  | .evNone _ _ _ _ _ => Sys2Proof.Machine.execEvNone s

end Sys2Proof.Machine
end

