-- ==== Sys2Proof/Machine/Fetch.lean ====
section
/-!
DEFINITION. Taking the next event from the input port, and placing an encoded instruction where the next step takes it
(log entry 11).
-/

namespace Sys2Proof.Machine

/-- The input port after the event at its head is taken: an event is consumed and cannot be read twice (R65). -/
def State.consume (s : State) : State := { s with input := s.input.tail }

/-- The operation the event `ev` selects in this state (R91, R130). -/
def State.operationOf (s : State) (ev : Event) : Instr := decodeEvent s.par.noiseMasksClkRise s.cls ev

/-- Place the event at the head of the input port, with the classifier observing and the noise filter's parameter at its
default, as `decodeTableWord` reads it. -/
def State.stageEvent (s : State) (ev : Event) : State :=
  { s with cls := .observe, par := { s.par with noiseMasksClkRise := Config.noiseMasksClkRiseDefault }, input := ev :: s.input }

/-- The first eleven bits of the frame `w` as they stand in the buffer, their pulses having begun at 0. -/
def elevenBits (w : FrameWord) : List Entry := (List.range 11).map (fun i => { bit := w.getLsbD i, pos := 0 })

/-- The clock fall that completes the frame `w` at `endPos`, reporting no direction level; its `dir` is 0 (log entries 11, 23). -/
def completingFall (w : FrameWord) (endPos : Nat) : Event :=
  { tc := true, td := false, clk := false, data := w.getLsbD 11, dv := false, dir := false, pos := endPos }

/-- Place the frame: its first eleven bits received, the twelfth sampled, and the clock fall that completes it at the head of
the input port. -/
def State.stageFrame (s : State) (w : FrameWord) (endPos : Nat) : State :=
  { s.stageEvent (completingFall w endPos) with
    dec := .inFrame, fb := elevenBits w, frameStart := 0, curBit := w.getLsbD 11, pulseStart := 0 }

/-- Place an encoded instruction so that the very next step runs it. -/
def State.stage (s : State) : Code → State
  | .event ev => s.stageEvent ev
  | .frame w endPos => s.stageFrame w endPos

end Sys2Proof.Machine
end

