-- ==== Sys2Proof/Machine/Step.lean ====
section
/-!
DEFINITION. One step of the framer (R6, R130), and how an instruction word is placed for it.
-/

namespace Sys2Proof.Machine

/-- One step: take the next event, select its operation and perform it, all within the step (R6, R65, R130). With no event to
take the framer waits, or the stream has ended: nothing changes (R7, R250; log entry 5). -/
def step (s : State) : Host.Outcome State Fault Refusal :=
  match s.input with
  | [] => .next s
  | ev :: _ => exec (s.operationOf ev) s.consume

/-- `s` with the instruction of an opcode-table word placed so that the next step runs it (log entry 11). -/
def State.withFetchWord (s : State) (nbits w : Nat) : State :=
  match tableCode nbits w with
  | some c => s.stage c
  | none => s

end Sys2Proof.Machine
end

