-- ==== Sys2Proof/Machine/Anomaly.lean ====
section
/-!
DEFINITION. The anomalies of rule R230, as an observation of what an instruction detects in a state. `note` writes no state
and emits nothing (R11), so this stands beside the meanings and no meaning calls it (log entry 16).
-/

namespace Sys2Proof.Machine

/-- The anomalies that some rule detects; A6, loss of synchronisation, "is not detected as such" (R230, R236). -/
inductive Anomaly where
  /-- A1, coincident rise (R231) -/
  | coincidentRise
  /-- A2, data fall under a high clock (R232) -/
  | dataFallUnderHighClock
  /-- A3, glitch (R233) -/
  | glitch
  /-- A4, overflow (R234) -/
  | overflow
  /-- A5, unrecognised prefix (R235) -/
  | unrecognisedPrefix
deriving DecidableEq, Repr

/-- What an accepted pulse notes: A4 when the append makes the length exceed `FRAME_LEN`, then A5 when it completes an
Unclassified frame (R152, R157, R174, R241). -/
def State.acceptedNotes (s : State) (dv dir : Bool) (pos : Nat) : List Anomaly :=
  let t := s.acceptPulse dv dir pos
  (if s.fb.length + 1 > Config.frameLen then [.overflow] else []) ++
    (if t.fb.length = Config.frameLen ∧ classify t.frameWord = .unclassified then [.unrecognisedPrefix] else [])

/-- The anomalies the instruction notes when it is performed in `s` (R230). -/
def noted (i : Instr) (s : State) : List Anomaly :=
  match i with
  | .sreset _ _ => []
  | .ssel _ _ => []
  | .sctl _ _ _ _ _ => []
  | .data _ _ => []
  | .null _ => []
  | .unclassified _ _ => [.unrecognisedPrefix]
  | .evSkipEnd _ _ _ _ _ => []
  | .evSkipHoldNoClock _ _ _ _ _ _ => []
  | .evSkipHoldClockHigh _ _ _ _ _ => []
  | .evInterference _ _ _ => [.coincidentRise]
  | .evNoise _ _ _ _ => [.dataFallUnderHighClock]
  | .evClkRise _ _ _ _ _ => []
  | .evClkFall _ _ dv dir pos => if narrowPulse s.pulseStart pos then [.glitch] else s.acceptedNotes dv dir pos
  | .evDataOnlyClockLow _ _ _ _ => []
  | .evDataOnlyClockHigh _ _ _ => []
  | .evNone _ _ _ _ _ => []

end Sys2Proof.Machine
end

