-- ==== Sys2Proof/Machine/Environment.lean ====
section
/-!
DEFINITION. The operations the environment performs between steps (R251, D29; log entry 17): delivering an event, RESET,
CONFIGURE and END-OF-STREAM. None of them is an event and none can fail.
-/

namespace Sys2Proof.Machine

/-- The Signal Source delivers events, in arrival order (R70). -/
def State.deliver (s : State) (evs : List Event) : State := { s with input := s.input ++ evs }

/-- RESET (R260): every element takes its reset value; the records already emitted stay emitted and an open run or a partial
frame is discarded without a record (R261). The parameters are no element, and the events not yet taken are the Signal
Source's. -/
def State.resetByHost (s : State) : State := { State.reset with par := s.par, input := s.input, output := s.output }

/-- CONFIGURE: the host sets the four configuration bits (R251, R262). -/
def State.configure (s : State) (opts : Options) : State := { s with opts := opts }

/-- END-OF-STREAM: nothing (R7, R251). -/
def State.endOfStream (s : State) : State := s

/-- The configuration word `CFG = show_guess ++ show_debug ++ show_bit ++ show_clk` (R40, R109). -/
def Options.word (o : Options) : BitVec 4 :=
  BitVec.ofBool o.showGuess ++ BitVec.ofBool o.showDebug ++ BitVec.ofBool o.showBit ++ BitVec.ofBool o.showClk

/-- The configuration bits of a word `CFG` (R109). -/
def Options.ofWord (cfg : BitVec 4) : Options :=
  { showClk := cfg.getLsbD 0, showBit := cfg.getLsbD 1, showDebug := cfg.getLsbD 2, showGuess := cfg.getLsbD 3 }

end Sys2Proof.Machine
end

