-- ==== Sys2Proof/Machine/Streams.lean ====
section
/-!
DEFINITION. Event streams: the spec's notation for events and frames (R105 to R107) as functions that make event lists, and
the reference edge detector of decision D2, which turns sampled levels into events (log entry 18). Nothing here is part of a
step.
-/

namespace Sys2Proof.Machine

/-- The operands of an event written with or without `dir=` (R105): without it `dv = 0`. The level `dir` of such an event is any
value (U12 of spec/93_implementation_defined.md) and no rule reads it; 0 is a DESIGN CHOICE, safe (log entry 23). -/
def withDir (ev : Event) (dir : Option Bool) : Event := { ev with dv := dir.isSome, dir := dir.getD false }

/-- `@t RISE d` (R105). -/
def riseEvent (t : Nat) (d : Bool) (dir : Option Bool) : Event :=
  withDir { tc := true, td := false, clk := true, data := d, dv := false, dir := false, pos := t } dir

/-- `@t FALL d` (R105). -/
def fallEvent (t : Nat) (d : Bool) (dir : Option Bool) : Event :=
  withDir { tc := true, td := false, clk := false, data := d, dv := false, dir := false, pos := t } dir

/-- `@t DSET c d` (R105). -/
def dsetEvent (t : Nat) (c d : Bool) (dir : Option Bool) : Event :=
  withDir { tc := false, td := true, clk := c, data := d, dv := false, dir := false, pos := t } dir

/-- `@t BOTH c d` (R105). -/
def bothEvent (t : Nat) (c d : Bool) (dir : Option Bool) : Event :=
  withDir { tc := true, td := true, clk := c, data := d, dv := false, dir := false, pos := t } dir

/-- `@t NONE c d` (R105). -/
def noneEvent (t : Nat) (c d : Bool) (dir : Option Bool) : Event :=
  withDir { tc := false, td := false, clk := c, data := d, dv := false, dir := false, pos := t } dir

/-- The events of one bit of the canonical expansion, at `t`, after the data level `prev` (R106). -/
def pulseEvents (prev : Bool) (t : Nat) (b : Bool) (dir : Option Bool) : List Event :=
  (if b != prev then [dsetEvent t false b dir] else []) ++ [riseEvent (t + 2) b dir, fallEvent (t + 6) b dir]

/-- `BITS b0 b1 ... @t` (R107), each bit with its direction level, if any. -/
def bitEvents (prev : Bool) (t : Nat) : List (Bool × Option Bool) → List Event
  | [] => []
  | (b, dir) :: rest => pulseEvents prev t b dir ++ bitEvents b (t + 8) rest

/-- The twelve bits of a frame word in wire order, each with its direction level (R93, R106). -/
def wireBits (w : FrameWord) (dirs : Option FrameWord) : List (Bool × Option Bool) :=
  (List.range 12).map (fun i => (w.getLsbD i, dirs.map (fun d => d.getLsbD i)))

/-- `FRAME w @t [dir=d0..d11]` (R106), after the data level `prev`. -/
def frameEvents (prev : Bool) (t : Nat) (w : FrameWord) (dirs : Option FrameWord) : List Event :=
  bitEvents prev t (wireBits w dirs)

/-- `ZEROS n @t` (R107). -/
def zeroEvents (prev : Bool) (t n : Nat) : List Event := bitEvents prev t (List.replicate n (false, none))

/-- `GLITCH d @t` (R107): a pulse one unit wide. -/
def glitchEvents (t : Nat) (d : Bool) : List Event := [riseEvent t d none, fallEvent (t + 1) d none]

/-- `INTERF @t` (R107): a coincident rise and the clock fall that ends its skip. -/
def interfEvents (t : Nat) : List Event := [bothEvent t true true none, fallEvent (t + 4) true none]

/-- `DESEL` (R107): a Select with address 0. -/
def deselInstr (endPos : Nat) : Instr := .ssel 0 endPos

/-- One sample of the lines (D2). -/
structure Sample where
  clk : Bool
  data : Bool
  dir : Bool
  pos : Nat
deriving DecidableEq, Repr

/-- The event between two consecutive samples, if either line changed (D2); `dv` says once for a session whether a direction
level is reported. -/
def edgeEvent (dv : Bool) (prev cur : Sample) : Option Event :=
  if cur.clk != prev.clk || cur.data != prev.data then
    some { tc := cur.clk != prev.clk, td := cur.data != prev.data, clk := cur.clk, data := cur.data
           dv := dv, dir := cur.dir, pos := cur.pos }
  else none

/-- The reference edge detector (D2): the events of the samples after `prev`, in order; none at the first sample. -/
def edgeEvents (dv : Bool) (prev : Sample) : List Sample → List Event
  | [] => []
  | cur :: rest => (edgeEvent dv prev cur).toList ++ edgeEvents dv cur rest

end Sys2Proof.Machine
end

