-- ==== Sys2Proof/Safety.lean ====
section
/-!
DEFINITION. What claims about the framer are said in: a well-formed event stream (R92), the invariants of rule R51, the
order of positions (R51 I6, R71, R270), and the accounting of data frames in the output (R217).
-/

namespace Sys2Proof.Machine

/-! ### Well-formed event streams (R92) -/

/-- The event follows the levels `clk`, `data` of a session with direction availability `dv` (R92 (a), (b), (d)). -/
def followsLevels (clk data dv : Bool) (ev : Event) : Bool :=
  (ev.tc || ev.td) && ev.tc == (ev.clk != clk) && ev.td == (ev.data != data) && ev.dv == dv

/-- The stream is well formed after the levels `clk`, `data` (R92): every event follows the one before, and positions rise
strictly. -/
def wellFormedStream (clk data dv : Bool) : List Event → Bool
  | [] => true
  | ev :: rest =>
    followsLevels clk data dv ev && rest.all (fun later => ev.pos < later.pos) && wellFormedStream ev.clk ev.data dv rest

/-! ### The invariants of rule R51 -/

/-- I1: `0 <= fb_len <= 12`. -/
abbrev State.bufferBounded (s : State) : Prop := s.fb.length ≤ Config.frameLen

/-- I2: in SEARCH, `cur_bit = 0` and every valid buffer entry is 0. -/
abbrev State.searchHoldsZeros (s : State) : Prop :=
  s.dec = .search → s.curBit = false ∧ ∀ e ∈ s.fb, e.bit = false

/-- I3: in INFRAME, `fb_len <= 11`. -/
abbrev State.inFrameNotFull (s : State) : Prop := s.dec = .inFrame → s.fb.length ≤ 11

/-- I4, as R51 and R23 state it: in INFRAME with a bit received, `frame_start = fb_pos[0]`. The operation rules do not keep
it (log entry 13). -/
abbrev State.startIsFirstPosition (s : State) : Prop :=
  s.dec = .inFrame → ∀ e ∈ s.fb.head?, s.frameStart = e.pos

/-- I5: `run_open = 1` exactly when `run_count != 0`. -/
abbrev State.openIffCounted (s : State) : Prop := s.ctx.runOpen = true ↔ s.ctx.runCount ≠ 0

/-- The run counter has a bit: `CNT_W` is a width. I5 needs it. -/
abbrev State.counterHasBit (s : State) : Prop := 0 < s.par.cntW

/-- The invariants of R51 that every step keeps: I1, I2, I3 and I5. -/
abbrev State.Inv (s : State) : Prop :=
  s.bufferBounded ∧ s.searchHoldsZeros ∧ s.inFrameNotFull ∧ s.openIffCounted ∧ s.counterHasBit

/-- Every delivered clock fall comes after a pulse that took the start condition or continued a frame: with an empty buffer
in INFRAME, the last delivered rise marked the frame start. What I4 needs and a masked clock rise breaks. -/
abbrev State.pulseIsMarked (s : State) : Prop := s.dec = .inFrame → s.fb = [] → s.frameStart = s.pulseStart

/-! ### The order of positions (R51 I6, R69, R270) -/

/-- The positions still to come are in order and not before any position the framer holds. -/
abbrev State.inputOrdered (s : State) : Prop :=
  s.input.Pairwise (fun a b => a.pos ≤ b.pos) ∧
    ∀ ev ∈ s.input, s.pulseStart ≤ ev.pos ∧ s.frameStart ≤ ev.pos ∧ s.ctx.runEnd ≤ ev.pos

/-- The buffer's positions are in order and none is after the last delivered rise. -/
abbrev State.bufferOrdered (s : State) : Prop :=
  s.fb.Pairwise (fun a b => a.pos ≤ b.pos) ∧ ∀ e ∈ s.fb, e.pos ≤ s.pulseStart

/-- I6 of R51: an open run starts no later than it ends. -/
abbrev State.runOrdered (s : State) : Prop := s.ctx.runOpen = true → s.ctx.runStart ≤ s.ctx.runEnd

/-- No record ends before it starts (R270). -/
abbrev State.recordsOrdered (s : State) : Prop := ∀ r ∈ s.output, r.ss ≤ r.es

/-- The order of positions that a stream whose positions never decrease keeps. -/
abbrev State.Ordered (s : State) : Prop :=
  s.inputOrdered ∧ s.bufferOrdered ∧ s.runOrdered ∧ s.recordsOrdered

/-! ### The widths of positions and counts (R8, R20, R90, R96, R98, R216) -/

/-- The number fits `POS_W` bits. -/
abbrev Params.fitsPos (par : Params) (p : Nat) : Prop := p < 2 ^ par.posW

/-- The number fits `CNT_W` bits. -/
abbrev Params.fitsCount (par : Params) (n : Nat) : Prop := n < 2 ^ par.cntW

/-- The count a record publishes: that of RUN_COUNT, else 0. -/
def Record.published (r : Record) : Nat :=
  match r.body with
  | .runCount n => n
  | _ => 0

/-- The record's positions fit `POS_W` bits, and the count it publishes, if any, fits `CNT_W` bits (R98). -/
abbrev Params.fitsRecord (par : Params) (r : Record) : Prop :=
  par.fitsPos r.ss ∧ par.fitsPos r.es ∧ par.fitsCount r.published

/-- The positions still to come fit `POS_W` bits (R90, R270). -/
abbrev State.inputFits (s : State) : Prop := ∀ ev ∈ s.input, s.par.fitsPos ev.pos

/-- Every position and count the framer holds fits its width (R20). -/
abbrev State.registersFit (s : State) : Prop :=
  s.par.fitsPos s.pulseStart ∧ s.par.fitsPos s.frameStart ∧ (∀ e ∈ s.fb, s.par.fitsPos e.pos) ∧
    s.par.fitsPos s.ctx.runStart ∧ s.par.fitsPos s.ctx.runEnd ∧ s.par.fitsCount s.ctx.runCount

/-- Every record emitted fits the widths of R96 and R98. -/
abbrev State.recordsFit (s : State) : Prop := ∀ r ∈ s.output, s.par.fitsRecord r

/-- Everything fits the widths `POS_W` and `CNT_W`. -/
abbrev State.FitsWidths (s : State) : Prop := s.inputFits ∧ s.registersFit ∧ s.recordsFit

/-! ### The accounting of data frames (R217) -/

/-- The sum of the counts of all RUN_COUNT records (R217(c)). -/
def publishedCount (rs : List Record) : Nat := (rs.map Record.published).sum

/-- The number of Data frames classified, one DATA_FRAME record each (R172). -/
def dataFrameCount (rs : List Record) : Nat := rs.countP (fun r => r.body == .dataFrame)

/-- R217(c): below saturation, the published counts and the open run's count add up to the Data frames classified. -/
abbrev State.Accounted (s : State) : Prop :=
  dataFrameCount s.output < 2 ^ s.par.cntW → publishedCount s.output + s.ctx.runCount = dataFrameCount s.output

/-! ### What the configuration may change (R40) -/

/-- The states agree on everything but the configuration bits and the records emitted. -/
abbrev State.agreeBesidesOptions (s t : State) : Prop :=
  s = { t with opts := s.opts, output := s.output }

/-- A step of the machine. -/
abbrev stepsTo (s t : State) : Prop := step s = .next t

end Sys2Proof.Machine
end

