-- ==== Sys2Proof/Certificates/Slice0/Obligations.lean ====
section
/-!
DEFINITION. The statements for the provers, in the order of the spec's files: the step, decoding and encoding, the event
operations, the bit assembler, the frame operations, the flags and the Control Context, the records, the environment, the
invariants, and whole streams. Each docstring names the rule a statement formalises, or the log entry of a choice it rests on.
-/

open Sys2Proof Sys2Proof.Machine

/-! ### The step (R6, R7, R130) -/

/-- R130 with R91: a step takes the event at the head of the input and runs the instruction it decodes to, on the state with
that event consumed. The input list is the model's own (log entry 3). -/
def Obligations.StepRunsDecodedEvent : Prop :=
  ∀ (s : State) (ev : Event) (rest : List Event) (i : Instr), s.input = ev :: rest →
    decodeEvent s.par.noiseMasksClkRise s.cls ev = i → step s = exec i { s with input := rest }

/-- R130: the pseudocode of one step, for the default of NOISE_MASKS_CLK_RISE, under which R130's noise test is literal. -/
def Obligations.StepFollowsDispatchOrder : Prop :=
  ∀ (s : State) (ev : Event) (rest : List Event), s.input = ev :: rest → s.par.noiseMasksClkRise = true →
    step s =
      if s.cls = .skipToFall then
        if ev.tc = true ∧ ev.clk = false then .next { s with input := rest, cls := .observe }
        else .next { s with input := rest }
      else if ev.tc = true ∧ ev.td = true ∧ ev.clk = true ∧ ev.data = true then
        .next { s with input := rest, cls := .skipToFall }
      else if ev.td = true ∧ ev.data = false ∧ ev.clk = true then .next { s with input := rest }
      else if ev.tc = true ∧ ev.clk = true then
        exec (.evClkRise ev.td ev.data ev.dv ev.dir ev.pos) { s with input := rest }
      else if ev.tc = true ∧ ev.clk = false then
        exec (.evClkFall ev.td ev.data ev.dv ev.dir ev.pos) { s with input := rest }
      else .next { s with input := rest }

/-- R7, R250: with no event to take, waiting or at end-of-stream, nothing changes. That the model answers this wait with an
unchanged next state is log entry 5. -/
def Obligations.EmptyInputStepChangesNothing : Prop :=
  ∀ s : State, s.input = [] → step s = .next s

/-- R6, R12: a step always completes; no instruction faults or is refused, in any state. -/
def Obligations.EveryInstructionAndStepCompletes : Prop :=
  (∀ (i : Instr) (s : State), ∃ t, exec i s = .next t) ∧ ∀ s : State, ∃ t, step s = .next t

/-- R6, R65, R160(a): a step consumes exactly one event, whatever it is, and appends at most one bit to the buffer. -/
def Obligations.StepConsumesOneEventAppendsAtMostOneBit : Prop :=
  ∀ (s t : State) (ev : Event) (rest : List Event), s.input = ev :: rest → step s = .next t →
    t.input = rest ∧ (t.fb.length ≤ s.fb.length + 1) ∧
      (t.fb = [] ∨ t.fb = s.fb ∨
        t.fb = (s.fb ++ [Entry.mk s.curBit s.pulseStart]).drop (s.fb.length + 1 - 12))

/-! ### Decoding and encoding (R9, R13, R91, R102, R103, R170, R190, R196) -/

/-- R91: the table of event codes, in both classifier states, for the default of NOISE_MASKS_CLK_RISE, and the event code. -/
def Obligations.EventCodeTableSelectsOperation : Prop :=
  ∀ (tc td clk data dv dir : Bool) (pos : Nat),
    (Event.code ⟨tc, td, clk, data, dv, dir, pos⟩).toNat =
        8 * tc.toNat + 4 * td.toNat + 2 * clk.toNat + data.toNat ∧
      decodeEvent true .skipToFall ⟨tc, td, clk, data, dv, dir, pos⟩ =
        (match tc, clk with
          | true, false => .evSkipEnd td data dv dir pos
          | true, true => .evSkipHoldClockHigh td data dv dir pos
          | false, c => .evSkipHoldNoClock td c data dv dir pos) ∧
      decodeEvent true .observe ⟨tc, td, clk, data, dv, dir, pos⟩ =
        (match tc, td, clk, data with
          | true, true, true, true => .evInterference dv dir pos
          | c, true, true, false => .evNoise c dv dir pos
          | true, false, true, d => .evClkRise false d dv dir pos
          | true, t, false, d => .evClkFall t d dv dir pos
          | false, true, false, d => .evDataOnlyClockLow d dv dir pos
          | false, true, true, true => .evDataOnlyClockHigh dv dir pos
          | false, false, c, d => .evNone c d dv dir pos)

/-- R91, R102, R105: words written out from the encodings decode to the instructions they stand for (SSEL 5, SCTL 0,0,1,3,
SRESET 63, DATA 0x82, NULL, RAW 0x00A; RISE 1, BOTH 1 1, BOTH 1 0, DSET 0 1). The byte container is the model's choice (log
entry 9), and with it the refusal of a byte with a bit above the event code (0x80) and of two bytes with a bit above the frame
word (0x1000), the position 2 of a frame word, and the zero operands `dv`, `dir`, `pos` of an event word. -/
def Obligations.TableWordsDecode : Prop :=
  decodeTableWord 16 0x229 = some (.ssel 5 2) ∧ decodeTableWord 16 0x619 = some (.sctl false false true 3 2) ∧
    decodeTableWord 16 0x1F9 = some (.sreset 63 2) ∧ decodeTableWord 16 0x413 = some (.data 0x82 2) ∧
    decodeTableWord 16 0x000 = some (.null 2) ∧ decodeTableWord 16 0x00A = some (.unclassified 0x00A 2) ∧
    decodeTableWord 8 0b1011 = some (.evClkRise false true false false 0) ∧
    decodeTableWord 8 0b1111 = some (.evInterference false false 0) ∧
    decodeTableWord 8 0b1110 = some (.evNoise true false false 0) ∧
    decodeTableWord 8 0b0101 = some (.evDataOnlyClockLow true false false 0) ∧
    decodeTableWord 8 0x80 = none ∧ decodeTableWord 16 0x1000 = none

/-- R170: the classification, in the order of its pseudocode. -/
def Obligations.ClassificationByFirstTwoBitsAndZero : Prop :=
  ∀ w : FrameWord,
    (w.getLsbD 0 = true → w.getLsbD 1 = false → classify w = .control) ∧
      (w.getLsbD 0 = true → w.getLsbD 1 = true → classify w = .data) ∧
      (w = 0 → classify w = .null) ∧ (w.getLsbD 0 = false → w ≠ 0 → classify w = .unclassified)

/-- R102: each frame row's mask and match, row 6 after row 5, and how many of the 4096 words each row has. -/
def Obligations.FrameRowsPartitionWords : Prop :=
  (∀ (w : FrameWord) (e : Nat),
      ((∃ a, decodeFrame w e = .sreset a e) ↔ w &&& 0x603 = 0x001) ∧
        ((∃ a, decodeFrame w e = .ssel a e) ↔ w &&& 0x603 = 0x201) ∧
        ((∃ sm bw rw r, decodeFrame w e = .sctl sm bw rw r e) ↔ w &&& 0x403 = 0x401) ∧
        ((∃ v, decodeFrame w e = .data v e) ↔ w &&& 0x003 = 0x003) ∧
        (decodeFrame w e = .null e ↔ w &&& 0xFFF = 0x000) ∧
        (decodeFrame w e = .unclassified w e ↔ w &&& 0x001 = 0x000 ∧ w ≠ 0)) ∧
    ((List.range 4096).countP (fun n => BitVec.ofNat 12 n &&& 0x603 == 0x001) = 256 ∧
      (List.range 4096).countP (fun n => BitVec.ofNat 12 n &&& 0x603 == 0x201) = 256 ∧
      (List.range 4096).countP (fun n => BitVec.ofNat 12 n &&& 0x403 == 0x401) = 512 ∧
      (List.range 4096).countP (fun n => BitVec.ofNat 12 n &&& 0x003 == 0x003) = 1024 ∧
      (List.range 4096).countP (fun n => BitVec.ofNat 12 n == 0) = 1 ∧
      (List.range 4096).countP (fun n => BitVec.ofNat 12 n &&& 0x001 == 0 && BitVec.ofNat 12 n != 0) = 2047)

/-- R101, R190, R210: the fields of a Control word and of a Data word are the slices of `W`, as numbers. -/
def Obligations.FieldsAreSlicesOfFrameWord : Prop :=
  ∀ (w : FrameWord) (e : Nat), w.getLsbD 0 = true →
    (w.getLsbD 1 = true → ∃ v, decodeFrame w e = .data v e ∧ v.toNat = w.toNat / 8 % 256) ∧
      (w.getLsbD 1 = false → w.getLsbD 10 = false → w.getLsbD 9 = false →
        ∃ a, decodeFrame w e = .sreset a e ∧ a.toNat = w.toNat / 8 % 64) ∧
      (w.getLsbD 1 = false → w.getLsbD 10 = false → w.getLsbD 9 = true →
        ∃ a, decodeFrame w e = .ssel a e ∧ a.toNat = w.toNat / 8 % 64) ∧
      (w.getLsbD 1 = false → w.getLsbD 10 = true →
        ∃ r, decodeFrame w e = .sctl (w.getLsbD 7) (w.getLsbD 8) (w.getLsbD 9) r e ∧ r.toNat = w.toNat / 8 % 16)

/-- R13 with R9: the field of frame bits `lo` to `lo + n - 1` of a full buffer is the sum of `fb_bit[lo+k] * 2^k`, and the
source's worked example. -/
def Obligations.FieldFoldIsLeastSignificantFirst : Prop :=
  (∀ (s : State) (lo n : Nat), s.fb.length = 12 → lo + n ≤ 12 →
      (s.frameWord.extractLsb' lo n).toNat =
        ((List.range n).map (fun k => (((s.fb.map Entry.bit)[lo + k]?).getD false).toNat * 2 ^ k)).sum) ∧
    foldBits [false, true, false, false, false, false, false, true] = 130

/-- R103(b), R196(d): a Control or Data word decodes the same whatever frame bits 2 and 11 hold. -/
def Obligations.FrameBitsTwoAndElevenIgnored : Prop :=
  ∀ (w v : FrameWord) (e : Nat), w.getLsbD 0 = true →
    (∀ k, k < 12 → k ≠ 2 → k ≠ 11 → w.getLsbD k = v.getLsbD k) → decodeFrame w e = decodeFrame v e

/-- R196(c), extended to every row of R91 and R102: encoding, then decoding in the classifier state of the row, is the
identity on every well-formed instruction, for both values of NOISE_MASKS_CLK_RISE. -/
def Obligations.DecodeAfterEncodeIsIdentity : Prop :=
  ∀ (masks : Bool) (cls : Cls) (i : Instr), i.wellFormed masks = true → i.inCls cls = true →
    decode masks cls (encode i) = i

/-- R91, R103: every event and every frame decodes to a well-formed instruction of its row; encoding that instruction gives
the event back, and the frame back up to the ignored bits 2 and 11 of a Control or Data frame. -/
def Obligations.EncodeAfterDecodeRestoresWord : Prop :=
  (∀ (masks : Bool) (cls : Cls) (ev : Event),
      encode (decodeEvent masks cls ev) = .event ev ∧ (decodeEvent masks cls ev).wellFormed masks = true ∧
        (decodeEvent masks cls ev).inCls cls = true) ∧
    ∀ (masks : Bool) (cls : Cls) (w : FrameWord) (e : Nat),
      encode (decodeFrame w e) = .frame (if w.getLsbD 0 then w &&& 0x7FB else w) e ∧
        (decodeFrame w e).wellFormed masks = true ∧ (decodeFrame w e).inCls cls = true

/-- The model's interface to a table word (log entries 9, 11; derived from R158): the instruction `decodeTableWord` reads is
the one the very next step runs, an event at once and a frame at the end of the clock fall that completes it. -/
def Obligations.PlacedTableWordRunsNext : Prop :=
  ∀ (s : State) (nbits w : Nat) (i : Instr), decodeTableWord nbits w = some i →
    (nbits ≤ 8 → step (s.withFetchWord nbits w) = exec i (s.withFetchWord nbits w).consume) ∧
      (8 < nbits → ∃ a : State, a.frameWord = BitVec.ofNat 12 w ∧ a.fb.length = 12 ∧ a.ctx = s.ctx ∧ a.asicFlag = s.asicFlag ∧
        a.opts = s.opts ∧ a.input = s.input ∧ i = decodeFrame (BitVec.ofNat 12 w) 2 ∧ step (s.withFetchWord nbits w) = exec i a)

/-! ### The event operations (R131 to R137) -/

/-- R131: while an interference is skipped every event is EV.SKIP_HOLD, in either of its rows, or EV.SKIP_END; the first does
nothing, the second goes to OBSERVE and does nothing else. -/
def Obligations.SkipHoldAndSkipEnd : Prop :=
  ∀ (s : State) (masks td clk d dv dir : Bool) (p : Nat),
    decodeEvent masks .skipToFall ⟨false, td, clk, d, dv, dir, p⟩ = .evSkipHoldNoClock td clk d dv dir p ∧
      decodeEvent masks .skipToFall ⟨true, td, true, d, dv, dir, p⟩ = .evSkipHoldClockHigh td d dv dir p ∧
      decodeEvent masks .skipToFall ⟨true, td, false, d, dv, dir, p⟩ = .evSkipEnd td d dv dir p ∧
      exec (.evSkipHoldNoClock td clk d dv dir p) s = .next s ∧ exec (.evSkipHoldClockHigh td d dv dir p) s = .next s ∧
      exec (.evSkipEnd td d dv dir p) s = .next { s with cls := .observe } ∧
      noted (.evSkipHoldNoClock td clk d dv dir p) s = [] ∧ noted (.evSkipHoldClockHigh td d dv dir p) s = [] ∧
      noted (.evSkipEnd td d dv dir p) s = []

/-- R132: EV.INTERFERENCE goes to SKIP_TO_FALL, does nothing else and notes A1; code 1111 in OBSERVE selects it. -/
def Obligations.InterferenceBeginsSkip : Prop :=
  ∀ (s : State) (masks dv dir : Bool) (p : Nat),
    decodeEvent masks .observe ⟨true, true, true, true, dv, dir, p⟩ = .evInterference dv dir p ∧
      exec (.evInterference dv dir p) s = .next { s with cls := .skipToFall } ∧
      noted (.evInterference dv dir p) s = [.coincidentRise]

/-- R133: EV.NOISE writes no state and notes A2; code 0110 in OBSERVE selects it, and code 1110 does when
NOISE_MASKS_CLK_RISE is true; when it is false, 1110 is an EV.CLK_RISE with data 0. -/
def Obligations.NoiseWritesNothing : Prop :=
  ∀ (s : State) (masks tc dv dir : Bool) (p : Nat),
    exec (.evNoise tc dv dir p) s = .next s ∧ noted (.evNoise tc dv dir p) s = [.dataFallUnderHighClock] ∧
      decodeEvent masks .observe ⟨false, true, true, false, dv, dir, p⟩ = .evNoise false dv dir p ∧
      decodeEvent masks .observe ⟨true, true, true, false, dv, dir, p⟩ =
        (if masks then .evNoise true dv dir p else .evClkRise true false dv dir p)

/-- R136, R137: EV.DATA_ONLY, both rows, and EV.NONE, with the codes that select them in OBSERVE, change no state, emit
nothing and note nothing. -/
def Obligations.DataOnlyAndNoneChangeNothing : Prop :=
  ∀ (s : State) (masks clk d dv dir : Bool) (p : Nat),
    decodeEvent masks .observe ⟨false, true, false, d, dv, dir, p⟩ = .evDataOnlyClockLow d dv dir p ∧
      decodeEvent masks .observe ⟨false, true, true, true, dv, dir, p⟩ = .evDataOnlyClockHigh dv dir p ∧
      decodeEvent masks .observe ⟨false, false, clk, d, dv, dir, p⟩ = .evNone clk d dv dir p ∧
      exec (.evDataOnlyClockLow d dv dir p) s = .next s ∧ exec (.evDataOnlyClockHigh dv dir p) s = .next s ∧
      exec (.evNone clk d dv dir p) s = .next s ∧ noted (.evDataOnlyClockLow d dv dir p) s = [] ∧
      noted (.evDataOnlyClockHigh dv dir p) s = [] ∧ noted (.evNone clk d dv dir p) s = []

/-- R138(b): while an interference is skipped a step changes nothing but `cls`, whatever the event, and `cls` only at a
clock fall. -/
def Obligations.SkipChangesOnlyClassifierState : Prop :=
  ∀ (s : State) (ev : Event) (rest : List Event), s.input = ev :: rest → s.cls = .skipToFall →
    step s = .next { s with input := rest, cls := if ev.tc && !ev.clk then .observe else .skipToFall }

/-- R138(a): `cls` is written only by EV.INTERFERENCE and EV.SKIP_END. -/
def Obligations.ClassifierStateWrittenOnlyBySkipEvents : Prop :=
  ∀ (i : Instr) (s t : State), exec i s = .next t → t.cls ≠ s.cls →
    (t.cls = .skipToFall ∧ ∃ dv dir p, i = .evInterference dv dir p) ∨
      (t.cls = .observe ∧ ∃ td d dv dir p, i = .evSkipEnd td d dv dir p)

/-! ### The bit assembler (R150 to R160) -/

/-- R150, R151: EV.CLK_RISE samples the bit and the position, and evaluates the start condition; nothing else changes. -/
def Obligations.ClockRiseSamplesAndStartsFrame : Prop :=
  ∀ (s : State) (td d dv dir : Bool) (p : Nat),
    exec (.evClkRise td d dv dir p) s =
      .next
        (if (s.dec = .search ∧ d = true) ∨ s.fb.length = 0 then
          { s with curBit := d, pulseStart := p, frameStart := p, fb := [], dec := .inFrame }
        else { s with curBit := d, pulseStart := p })

/-- R153: a pulse narrower than two sample units, on mathematical integers, is ignored whole and noted as A3; a wider one,
a width of exactly 2 included, is not a glitch and changes the state. -/
def Obligations.NarrowPulseIgnored : Prop :=
  ∀ (s : State) (td d dv dir : Bool) (p : Nat),
    ((p : Int) - (s.pulseStart : Int) < 2 →
      exec (.evClkFall td d dv dir p) s = .next s ∧ noted (.evClkFall td d dv dir p) s = [.glitch]) ∧
      (2 ≤ (p : Int) - (s.pulseStart : Int) →
        .glitch ∉ noted (.evClkFall td d dv dir p) s ∧
          (s.fb.length < 11 → ∃ t, exec (.evClkFall td d dv dir p) s = .next t ∧ t.fb.length = s.fb.length + 1))

/-- R152 with R154 to R158: an accepted clock fall emits CLK, appends the sampled bit with its pulse start, emits BIT, makes
the direction test on the new length, drops the oldest entry where the buffer was full, which alone is noted as A4, and at
twelve bits performs the frame operation the word decodes to. -/
def Obligations.AcceptedClockFallAppendsAndCompletes : Prop :=
  ∀ (s a : State) (td d dv dir : Bool) (p : Nat), s.pulseStart + 2 ≤ p →
    a = { s with
          fb := (s.fb ++ [Entry.mk s.curBit s.pulseStart]).drop (s.fb.length + 1 - 12)
          asicFlag := s.asicFlag || (dv && dir && s.fb.length + 1 == 4)
          output := s.output ++ (if s.opts.showClk then [Record.mk s.pulseStart p .clk] else []) ++
            (if s.opts.showBit then [Record.mk s.pulseStart p (.bit s.curBit)] else []) } →
    (.overflow ∈ noted (.evClkFall td d dv dir p) s ↔ 12 < s.fb.length + 1) ∧
    (s.fb.length + 1 < 12 → exec (.evClkFall td d dv dir p) s = .next a) ∧
      (12 ≤ s.fb.length + 1 → a.fb.length = 12 ∧
        exec (.evClkFall td d dv dir p) s = exec (decodeFrame a.frameWord p) a)

/-- R156: `asic_flag` is set only by an accepted clock fall with direction available and high that stores the fourth bit. -/
def Obligations.AsicFlagSetOnlyAtFourthBit : Prop :=
  ∀ (i : Instr) (s t : State), exec i s = .next t → s.asicFlag = false → t.asicFlag = true →
    ∃ td d p, i = .evClkFall td d true true p ∧ s.fb.length = 3 ∧ t.fb.length = 4 ∧ s.pulseStart + 2 ≤ p

/-- R26: `asic_flag` is cleared only by a Data frame: by DATA itself, or by the clock fall that completes one. -/
def Obligations.AsicFlagClearedOnlyByDataFrame : Prop :=
  ∀ (i : Instr) (s t : State), exec i s = .next t → s.asicFlag = true → t.asicFlag = false →
    (∃ v e, i = .data v e) ∨
      ∃ td d dv dir p r, i = .evClkFall td d dv dir p ∧ t.fb = [] ∧ t.output.getLast? = some r ∧
        Record.mk t.frameStart p .dataFrame ∈ t.output ∧
        (∃ v, r.body = .dataAsic v)

/-- R160(c): in SEARCH with a full buffer, on states that keep R51, every accepted pulse carries a 0, slides the window and
completes a Null frame, whose one record follows the pulse's own. -/
def Obligations.SearchWindowSlidesAndRepeatsNull : Prop :=
  ∀ (s : State) (td d dv dir : Bool) (p : Nat), s.Inv → s.dec = .search → s.fb.length = 12 →
    s.pulseStart + 2 ≤ p →
    exec (.evClkFall td d dv dir p) s =
      .next { s with
        fb := s.fb.tail ++ [Entry.mk false s.pulseStart]
        output := s.output ++ (if s.opts.showClk then [Record.mk s.pulseStart p .clk] else []) ++
          (if s.opts.showBit then [Record.mk s.pulseStart p (.bit false)] else []) ++ [Record.mk p p .nullFrame] }

/-- R176(b): `dec` is written to INFRAME only by a start condition at a clock rise, and to SEARCH only by a Null frame. -/
def Obligations.DecoderStateWrittenOnlyByStartAndNull : Prop :=
  ∀ (i : Instr) (s t : State), exec i s = .next t → t.dec ≠ s.dec →
    (t.dec = .inFrame ∧ ∃ td d dv dir p, i = .evClkRise td d dv dir p ∧ (d = true ∨ s.fb = [])) ∨
      (t.dec = .search ∧ ∃ p, t.output.getLast? = some (Record.mk p p .nullFrame) ∧
        (i = .null p ∨ ∃ td d dv dir, i = .evClkFall td d dv dir p ∧ t.frameWord = 0 ∧ t.fb.length = 12))

/-! ### The frame operations (R171 to R175, R191 to R193, R210 to R216) -/

/-- R191 with R171, R194, R195, R214: SRESET on a completed frame. Entries 3 and 9 of the buffer give the address's span. -/
def Obligations.SresetFrameEffect : Prop :=
  ∀ (s : State) (addr : Addr) (e : Nat) (e3 e9 : Entry), s.fb[3]? = some e3 → s.fb[9]? = some e9 →
    encode (.sreset addr e) = .frame (BitVec.ofNat 12 (0x001 + 8 * addr.toNat)) e ∧
      exec (.sreset addr e) s =
      .next { s with
        fb := []
        ctx := { s.ctx with
          expectAsic := false, curRegValid := false, runOpen := false
          runCount := if s.ctx.runOpen then 0 else s.ctx.runCount
          runStart := if s.ctx.runOpen then 0 else s.ctx.runStart }
        output := s.output ++ [Record.mk s.frameStart e .ctrlFrame] ++
          (if s.ctx.runOpen then [Record.mk s.ctx.runStart s.ctx.runEnd (.runCount s.ctx.runCount)] else []) ++
          [Record.mk s.frameStart e (.selRst false), Record.mk e3.pos e9.pos (.slaveAddr addr)] }

/-- R192 with R171, R194, R195, R214: SSEL on a completed frame; a Select with address 0 expects no peripheral data. -/
def Obligations.SselFrameEffect : Prop :=
  ∀ (s : State) (addr : Addr) (e : Nat) (e3 e9 : Entry), s.fb[3]? = some e3 → s.fb[9]? = some e9 →
    encode (.ssel addr e) = .frame (BitVec.ofNat 12 (0x201 + 8 * addr.toNat)) e ∧
      exec (.ssel addr e) s =
      .next { s with
        fb := []
        ctx := { s.ctx with
          expectAsic := decide (addr.toNat ≠ 0), curRegValid := false, runOpen := false
          runCount := if s.ctx.runOpen then 0 else s.ctx.runCount
          runStart := if s.ctx.runOpen then 0 else s.ctx.runStart }
        output := s.output ++ [Record.mk s.frameStart e .ctrlFrame] ++
          (if s.ctx.runOpen then [Record.mk s.ctx.runStart s.ctx.runEnd (.runCount s.ctx.runCount)] else []) ++
          [Record.mk s.frameStart e (.selRst true), Record.mk e3.pos e9.pos (.slaveAddr addr)] }

/-- R193 with R171, R194, R195, R214: SCTL on a completed frame, for either value of RW_READ. -/
def Obligations.SctlFrameEffect : Prop :=
  ∀ (s : State) (sm bw rw : Bool) (reg : RegNum) (e : Nat) (e3 e7 e8 e9 e10 e11 : Entry),
    s.fb[3]? = some e3 → s.fb[7]? = some e7 → s.fb[8]? = some e8 → s.fb[9]? = some e9 → s.fb[10]? = some e10 →
    s.fb[11]? = some e11 →
    encode (.sctl sm bw rw reg e) = .frame (BitVec.ofNat 12 (0x401 + 8 * reg.toNat + 128 * sm.toNat + 256 * bw.toNat + 512 * rw.toNat)) e ∧
      exec (.sctl sm bw rw reg e) s =
      .next { s with
        fb := []
        ctx := { s.ctx with
          expectAsic := decide (rw = s.par.rwRead), curReg := reg, curRegValid := true, runOpen := false
          runCount := if s.ctx.runOpen then 0 else s.ctx.runCount
          runStart := if s.ctx.runOpen then 0 else s.ctx.runStart }
        output := s.output ++ [Record.mk s.frameStart e .ctrlFrame] ++
          (if s.ctx.runOpen then [Record.mk s.ctx.runStart s.ctx.runEnd (.runCount s.ctx.runCount)] else []) ++
          [Record.mk s.frameStart e .sctl, Record.mk e3.pos e7.pos (.regNum reg), Record.mk e7.pos e8.pos (.modeSm sm),
            Record.mk e8.pos e9.pos (.modeBw bw), Record.mk e9.pos e10.pos (.modeRw rw),
            Record.mk e3.pos e11.pos (.modeSummary sm bw rw reg)] }

/-- R172, R210, R212, R213, R215: DATA on a completed frame: the frame's record, the value on the channel of highest
priority, the flag cleared, the run opened or continued. -/
def Obligations.DataFrameEffect : Prop :=
  ∀ (s : State) (v : ByteField) (e : Nat) (e3 e11 : Entry), s.fb[3]? = some e3 → s.fb[11]? = some e11 →
    encode (.data v e) = .frame (BitVec.ofNat 12 (0x003 + 8 * v.toNat)) e ∧
      exec (.data v e) s =
        .next { s with
          fb := [], asicFlag := false
          ctx := { s.ctx with
            runOpen := true, runStart := if s.ctx.runOpen then s.ctx.runStart else s.frameStart, runEnd := e
            runCount := min (s.ctx.runCount + 1) (2 ^ s.par.cntW - 1) }
          output := s.output ++
            [Record.mk s.frameStart e .dataFrame,
              Record.mk e3.pos e11.pos
                (if s.asicFlag = true then .dataAsic v
                else if s.ctx.expectAsic = true ∧ s.opts.showGuess = true then .dataGuess v
                else .dataHost v)] }

/-- R173: NULL emits one marker at the current sample and goes to SEARCH; the buffer, the Control Context and `asic_flag`
are kept. -/
def Obligations.NullFrameEffect : Prop :=
  ∀ (s : State) (e : Nat),
    encode (.null e) = .frame 0 e ∧ exec (.null e) s = .next { s with dec := .search, output := s.output ++ [Record.mk e e .nullFrame] } ∧
      noted (.null e) s = []

/-- R174, R175: UNCLASSIFIED notes A5, emits the raw frame only under `show_debug`, and clears the buffer unless the decoder
is in SEARCH. -/
def Obligations.UnclassifiedFrameEffect : Prop :=
  ∀ (s : State) (raw : FrameWord) (e : Nat),
    encode (.unclassified raw e) = .frame raw e ∧ exec (.unclassified raw e) s =
      .next { s with
        fb := if s.dec = .search then s.fb else []
        output := s.output ++ (if s.opts.showDebug then [Record.mk s.frameStart e (.rawFrame raw)] else []) } ∧
      noted (.unclassified raw e) s = [.unrecognisedPrefix]

/-- R213, R215, R216: what a Data frame does to the run registers, for every CNT_W; the count saturates and never wraps. -/
def Obligations.DataFrameAdvancesRunAndSaturates : Prop :=
  ∀ (s : State) (v : ByteField) (e : Nat), ∃ t, exec (.data v e) s = .next t ∧ t.ctx.runOpen = true ∧ t.ctx.runEnd = e ∧
    t.ctx.runCount = min (s.ctx.runCount + 1) (2 ^ s.par.cntW - 1) ∧
    (s.ctx.runOpen = false → t.ctx.runStart = s.frameStart) ∧ (s.ctx.runOpen = true → t.ctx.runStart = s.ctx.runStart) ∧
    t.ctx.expectAsic = s.ctx.expectAsic ∧ t.ctx.curReg = s.ctx.curReg ∧ t.ctx.curRegValid = s.ctx.curRegValid

/-! ### The Control Context and the options (R40, R41, R43, R176, R194, R217) -/

/-- R194: `expect_asic` after each Control frame, for either value of RW_READ, whatever the buffer holds; every other
instruction but a clock fall that completes a frame leaves it. -/
def Obligations.ExpectAsicWrittenByControlFrames : Prop :=
  (∀ (s t : State) (addr : Addr) (e : Nat), exec (.sreset addr e) s = .next t → t.ctx.expectAsic = false) ∧
    (∀ (s t : State) (e : Nat), exec (.ssel 0 e) s = .next t → t.ctx.expectAsic = false) ∧
    (∀ (s t : State) (addr : Addr) (e : Nat), addr ≠ 0 → exec (.ssel addr e) s = .next t → t.ctx.expectAsic = true) ∧
    (∀ (s t : State) (sm bw rw : Bool) (reg : RegNum) (e : Nat), exec (.sctl sm bw rw reg e) s = .next t →
      (rw = s.par.rwRead → t.ctx.expectAsic = true) ∧ (rw ≠ s.par.rwRead → t.ctx.expectAsic = false)) ∧
    ∀ (i : Instr) (s t : State), exec i s = .next t → t.ctx.expectAsic ≠ s.ctx.expectAsic →
      (∃ addr e, i = .sreset addr e ∨ i = .ssel addr e) ∨ (∃ sm bw rw reg e, i = .sctl sm bw rw reg e) ∨
        ∃ td d dv dir p, i = .evClkFall td d dv dir p ∧ Record.mk s.frameStart p .ctrlFrame ∈ t.output

/-- R176(c): the Control Context is written only when a Control or Data frame completes: a step that changes it emits the
record of one, at the position of its event. -/
def Obligations.ContextWrittenOnlyByControlAndData : Prop :=
  ∀ (s t : State) (ev : Event) (rest : List Event), s.input = ev :: rest → step s = .next t → t.ctx ≠ s.ctx →
    ∃ rs, t.output = s.output ++ rs ∧
      (Record.mk s.frameStart ev.pos .ctrlFrame ∈ rs ∨ Record.mk s.frameStart ev.pos .dataFrame ∈ rs) ∧ t.fb = []

/-- R41, R195: nothing reads `cur_reg` or `cur_reg_valid`: changing them before a step changes nothing else after it. -/
def Obligations.RegisterNumberReadByNothing : Prop :=
  ∀ (s t : State) (reg : RegNum) (valid : Bool), step s = .next t →
    ∃ reg' valid', step { s with ctx := { s.ctx with curReg := reg, curRegValid := valid } } =
      .next { t with ctx := { t.ctx with curReg := reg', curRegValid := valid' } }

/-- R43: the configuration bits are written by no step. That the parameters of R8 stand in State, which R45 does not count as
state, and that no step writes them, is the model's choice (log entries 1, 2). -/
def Obligations.OptionsAndParametersWrittenByNoStep : Prop :=
  ∀ s t : State, step s = .next t → t.opts = s.opts ∧ t.par = s.par

/-- R40: the options change only which records are emitted: two states that differ only in the options and in what was
emitted take steps to states that differ only there. -/
def Obligations.OptionsChangeOnlyRecords : Prop :=
  ∀ (s t : State) (opts : Options) (output : List Record), step s = .next t →
    ∃ output', step { s with opts := opts, output := output } = .next { t with opts := opts, output := output' }

/-- R70, R100: a step's records follow all earlier ones, none of which it changes; there are at most ten, and only an
accepted clock fall emits any. -/
def Obligations.StepAppendsAtMostTenRecords : Prop :=
  ∀ (s t : State), step s = .next t →
    ∃ rs, t.output = s.output ++ rs ∧ rs.length ≤ 10 ∧
      (rs ≠ [] → ∃ ev rest, s.input = ev :: rest ∧ s.cls = .observe ∧ ev.tc = true ∧ ev.clk = false ∧
        s.pulseStart + 2 ≤ ev.pos)

/-- R217(d): no RUN_COUNT record carries a count of 0, on states that keep R51. -/
def Obligations.RunCountRecordNeverZero : Prop :=
  ∀ (s t : State), s.Inv → (∀ r ∈ s.output, r.body ≠ .runCount 0) → step s = .next t →
    ∀ r ∈ t.output, r.body ≠ .runCount 0

/-- R241(e): on states that keep R51, one instruction notes at most one anomaly. -/
def Obligations.AtMostOneAnomalyNoted : Prop :=
  ∀ (i : Instr) (s : State), s.Inv → (noted i s).length ≤ 1

/-! ### The environment (R40, R50, R109, R251, R260, D2) -/

/-- R50, R260: the reset values, after RESET and in `State.reset`; RESET leaves the records already emitted. -/
def Obligations.ResetGivesEveryElementItsValue : Prop :=
  ∀ s t : State, t = s.resetByHost ∨ t = State.reset →
    t.cls = .observe ∧ t.dec = .search ∧ t.fb.length = 0 ∧ t.curBit = false ∧ t.pulseStart = 0 ∧ t.frameStart = 0 ∧
      t.asicFlag = false ∧ t.ctx.expectAsic = false ∧ t.ctx.curRegValid = false ∧ t.ctx.curReg = 0 ∧
      t.ctx.runOpen = false ∧ t.ctx.runCount = 0 ∧ t.ctx.runStart = 0 ∧ t.ctx.runEnd = 0 ∧
      t.opts.showClk = false ∧ t.opts.showBit = false ∧ t.opts.showDebug = false ∧ t.opts.showGuess = false ∧
      s.resetByHost.output = s.output

/-- The model's choice (log entries 1, 2, 3, 17): RESET leaves the parameters and the events not yet taken, which are no elements
of the framer. -/
def Obligations.ResetLeavesParametersAndInput : Prop :=
  ∀ s : State, s.resetByHost.par = s.par ∧ s.resetByHost.input = s.input ∧
    { s.resetByHost with par := State.reset.par, input := [], output := [] } = State.reset

/-- R40, R109, R251: CONFIGURE sets the four bits and nothing else, and CFG lists them with `show_clk` as bit 0. -/
def Obligations.ConfigureSetsOptionsOnly : Prop :=
  ∀ (s : State) (cfg : BitVec 4),
    s.configure (Options.ofWord cfg) = { s with opts := ⟨cfg.getLsbD 0, cfg.getLsbD 1, cfg.getLsbD 2, cfg.getLsbD 3⟩ } ∧
      (Options.ofWord cfg).word = cfg ∧ State.reset.opts.word = 0

/-- D2 with R92: the reference edge detector makes well-formed streams of samples whose positions rise. -/
def Obligations.EdgeDetectorStreamIsWellFormed : Prop :=
  ∀ (dv : Bool) (first : Sample) (samples : List Sample), samples.Pairwise (fun a b => a.pos < b.pos) →
    wellFormedStream first.clk first.data dv (edgeEvents dv first samples) = true

/-! ### Invariants (R51, R217) -/

/-- The machine right after reset has the invariants of R51, the order of positions, the widths and the accounting of
R217(c). -/
def Obligations.ResetHasEveryInvariant : Prop :=
  State.reset.Inv ∧ State.reset.Ordered ∧ State.reset.FitsWidths ∧ State.reset.Accounted ∧ State.reset.startIsFirstPosition

/-- R51 I1, I2, I3, I5: kept by every step, from every state that has them, for every CNT_W of at least 1 (log entry 1). -/
def Obligations.StepKeepsBufferAndRunInvariants : Prop :=
  ∀ s t : State, s.Inv → step s = .next t → t.Inv

/-- R51 I6 with R270: positions that never decrease keep the buffer, an open run and every record emitted in order. -/
def Obligations.StepKeepsPositionOrder : Prop :=
  ∀ s t : State, s.Ordered → step s = .next t → t.Ordered

/-- R217(c): every step keeps the sum of the published counts and the open run's count equal to the Data frames classified,
below saturation. -/
def Obligations.StepKeepsDataFrameAccounting : Prop :=
  ∀ s t : State, s.Accounted → step s = .next t → t.Accounted

/-- R23, R51 I4, with the premise the rules need: where a pulse that fills an empty buffer is the one that marked the frame
start, `frame_start = fb_pos[0]` is kept (log entry 13). -/
def Obligations.FrameStartIsFirstPositionForMarkedPulses : Prop :=
  ∀ s t : State, s.Inv → s.startIsFirstPosition → s.pulseIsMarked → step s = .next t → t.startIsFirstPosition

/-- R51 I4 as the spec states it, for every state a well-formed stream reaches from reset. The operation rules refute it: a
masked clock rise (R133) after a completed frame leaves a stale pulse start for the next bit (log entry 13). -/
def Obligations.FrameStartIsFirstPositionWhenReachable : Prop :=
  ∀ (evs : List Event) (n : Nat) (t : State), wellFormedStream false false false evs = true →
    Host.Core.run Sys2Proof.core n { State.reset with input := evs } = .next t → t.startIsFirstPosition

/-! ### Whole streams (R63, R106, R131, R264; S5 to S7) -/

/-- R106, the round trip: the canonical expansion of a frame word, taken from a state where its first rise is a start
condition, decodes to that frame's operation, performed once at its end, with the twelve positions R106 gives. -/
def Obligations.CanonicalFrameExpansionDecodes : Prop :=
  ∀ (s : State) (prev : Bool) (t : Nat) (w : FrameWord) (dirs : Option FrameWord) (rest : List Event),
    s.cls = .observe → (s.fb = [] ∨ (s.dec = .search ∧ w.getLsbD 0 = true)) →
    s.input = frameEvents prev t w dirs ++ rest →
    Host.Core.run Sys2Proof.core (frameEvents prev t w dirs).length s =
      exec (decodeFrame w (t + 94))
        { s with
          input := rest, curBit := w.getLsbD 11, pulseStart := t + 90, frameStart := t + 2
          dec := .inFrame, fb := (List.range 12).map (fun k => Entry.mk (w.getLsbD k) (t + 8 * k + 2))
          asicFlag := s.asicFlag || (dirs.map (fun d => d.getLsbD 3)).getD false
          output := s.output ++ (List.range 12).flatMap (fun k =>
            (if s.opts.showClk then [Record.mk (t + 8 * k + 2) (t + 8 * k + 6) .clk] else []) ++
            (if s.opts.showBit then
              [Record.mk (t + 8 * k + 2) (t + 8 * k + 6) (.bit (w.getLsbD k))] else [])) }

/-- R63(c), the realignment by zeros: from every state that keeps R51, twenty-three zero pulses leave the framer in SEARCH
with twelve zeros held and the input they stood before. -/
def Obligations.TwentyThreeZerosReachSearch : Prop :=
  ∀ (s : State) (prev : Bool) (t : Nat) (rest : List Event), s.Inv → s.cls = .observe →
    s.input = zeroEvents prev t 23 ++ rest →
    ∃ u, Host.Core.run Sys2Proof.core (zeroEvents prev t 23).length s = .next u ∧ u.dec = .search ∧ u.fb.length = 12 ∧
      u.frameWord = 0 ∧ u.input = rest

/-- R131, R132: an interference and the clock fall that ends its skip leave everything as it was: zero bits. -/
def Obligations.InterferencePulseContributesNoBit : Prop :=
  ∀ (s : State) (t : Nat) (rest : List Event), s.cls = .observe → s.input = interfEvents t ++ rest →
    Host.Core.run Sys2Proof.core 2 s = .next { s with input := rest }

/-- R153, R233: a pulse one unit wide appends nothing and emits nothing, but its clock rise keeps its effects. -/
def Obligations.GlitchPulseKeepsOnlyClockRise : Prop :=
  ∀ (s : State) (t : Nat) (d : Bool) (rest : List Event), s.cls = .observe →
    s.input = glitchEvents t d ++ rest →
    Host.Core.run Sys2Proof.core 2 s = exec (.evClkRise false d false false t) { s with input := rest }

/-- R264(a): with the noise filter masking the clock rise, the following fall appends the previous pulse's bit with the
previous pulse's position. -/
def Obligations.MaskedRiseRepeatsPreviousBit : Prop :=
  ∀ (s : State) (t t' : Nat) (rest : List Event), s.cls = .observe → s.par.noiseMasksClkRise = true → s.fb.length < 11 →
    s.opts.showClk = false → s.opts.showBit = false → s.pulseStart + 2 ≤ t' →
    s.input = bothEvent t true false none :: fallEvent t' false none :: rest →
    Host.Core.run Sys2Proof.core 2 s = .next { s with input := rest, fb := s.fb ++ [Entry.mk s.curBit s.pulseStart] }

/-! ### The widths of positions and counts (R8, R20, R90, R96, R98, R216) -/

/-- R20, R90, R96, R98, R216, for every POS_W and CNT_W (log entry 1): while the events' positions fit POS_W bits, every position the framer
holds or emits fits POS_W bits, and every count fits CNT_W bits. -/
def Obligations.StepKeepsWidths : Prop :=
  ∀ s t : State, s.FitsWidths → step s = .next t → t.FitsWidths
end

