-- ==== Sys2Proof/Laws/State.lean ====
section
/-!
SUPPORT. One lemma per field of State per named update: what the update makes of the field. Each is true by `rfl` and a simp
lemma, so that no later proof unfolds a record update.
-/

namespace Sys2Proof.Machine

variable (s : State)

/-! ### `emit` -/

@[simp] theorem State.emit_cls (rs : List Record) : (s.emit rs).cls = s.cls := rfl
@[simp] theorem State.emit_curBit (rs : List Record) : (s.emit rs).curBit = s.curBit := rfl
@[simp] theorem State.emit_pulseStart (rs : List Record) : (s.emit rs).pulseStart = s.pulseStart := rfl
@[simp] theorem State.emit_fb (rs : List Record) : (s.emit rs).fb = s.fb := rfl
@[simp] theorem State.emit_dec (rs : List Record) : (s.emit rs).dec = s.dec := rfl
@[simp] theorem State.emit_frameStart (rs : List Record) : (s.emit rs).frameStart = s.frameStart := rfl
@[simp] theorem State.emit_asicFlag (rs : List Record) : (s.emit rs).asicFlag = s.asicFlag := rfl
@[simp] theorem State.emit_ctx (rs : List Record) : (s.emit rs).ctx = s.ctx := rfl
@[simp] theorem State.emit_opts (rs : List Record) : (s.emit rs).opts = s.opts := rfl
@[simp] theorem State.emit_par (rs : List Record) : (s.emit rs).par = s.par := rfl
@[simp] theorem State.emit_input (rs : List Record) : (s.emit rs).input = s.input := rfl
@[simp] theorem State.emit_output (rs : List Record) : (s.emit rs).output = s.output ++ rs := rfl

/-! ### `append` -/

@[simp] theorem State.append_cls : s.append.cls = s.cls := rfl
@[simp] theorem State.append_curBit : s.append.curBit = s.curBit := rfl
@[simp] theorem State.append_pulseStart : s.append.pulseStart = s.pulseStart := rfl
@[simp] theorem State.append_fb : s.append.fb = s.fb ++ [{ bit := s.curBit, pos := s.pulseStart }] := rfl
@[simp] theorem State.append_dec : s.append.dec = s.dec := rfl
@[simp] theorem State.append_frameStart : s.append.frameStart = s.frameStart := rfl
@[simp] theorem State.append_asicFlag : s.append.asicFlag = s.asicFlag := rfl
@[simp] theorem State.append_ctx : s.append.ctx = s.ctx := rfl
@[simp] theorem State.append_opts : s.append.opts = s.opts := rfl
@[simp] theorem State.append_par : s.append.par = s.par := rfl
@[simp] theorem State.append_input : s.append.input = s.input := rfl
@[simp] theorem State.append_output : s.append.output = s.output := rfl

/-! ### `clamp` -/

@[simp] theorem State.clamp_cls : s.clamp.cls = s.cls := (rfl)
@[simp] theorem State.clamp_curBit : s.clamp.curBit = s.curBit := (rfl)
@[simp] theorem State.clamp_pulseStart : s.clamp.pulseStart = s.pulseStart := (rfl)
@[simp] theorem State.clamp_fb : s.clamp.fb = s.fb.drop (s.fb.length - Config.frameLen) := (rfl)
@[simp] theorem State.clamp_dec : s.clamp.dec = s.dec := (rfl)
@[simp] theorem State.clamp_frameStart : s.clamp.frameStart = s.frameStart := (rfl)
@[simp] theorem State.clamp_asicFlag : s.clamp.asicFlag = s.asicFlag := (rfl)
@[simp] theorem State.clamp_ctx : s.clamp.ctx = s.ctx := (rfl)
@[simp] theorem State.clamp_opts : s.clamp.opts = s.opts := (rfl)
@[simp] theorem State.clamp_par : s.clamp.par = s.par := (rfl)
@[simp] theorem State.clamp_input : s.clamp.input = s.input := (rfl)
@[simp] theorem State.clamp_output : s.clamp.output = s.output := (rfl)

/-! ### `clearBuffer` -/

@[simp] theorem State.clearBuffer_cls : s.clearBuffer.cls = s.cls := rfl
@[simp] theorem State.clearBuffer_curBit : s.clearBuffer.curBit = s.curBit := rfl
@[simp] theorem State.clearBuffer_pulseStart : s.clearBuffer.pulseStart = s.pulseStart := rfl
@[simp] theorem State.clearBuffer_fb : s.clearBuffer.fb = [] := rfl
@[simp] theorem State.clearBuffer_dec : s.clearBuffer.dec = s.dec := rfl
@[simp] theorem State.clearBuffer_frameStart : s.clearBuffer.frameStart = s.frameStart := rfl
@[simp] theorem State.clearBuffer_asicFlag : s.clearBuffer.asicFlag = s.asicFlag := rfl
@[simp] theorem State.clearBuffer_ctx : s.clearBuffer.ctx = s.ctx := rfl
@[simp] theorem State.clearBuffer_opts : s.clearBuffer.opts = s.opts := rfl
@[simp] theorem State.clearBuffer_par : s.clearBuffer.par = s.par := rfl
@[simp] theorem State.clearBuffer_input : s.clearBuffer.input = s.input := rfl
@[simp] theorem State.clearBuffer_output : s.clearBuffer.output = s.output := rfl

/-! ### `sample` -/

@[simp] theorem State.sample_cls (data : Bool) (pos : Nat) : (s.sample data pos).cls = s.cls := rfl
@[simp] theorem State.sample_curBit (data : Bool) (pos : Nat) : (s.sample data pos).curBit = data := rfl
@[simp] theorem State.sample_pulseStart (data : Bool) (pos : Nat) : (s.sample data pos).pulseStart = pos := rfl
@[simp] theorem State.sample_fb (data : Bool) (pos : Nat) : (s.sample data pos).fb = s.fb := rfl
@[simp] theorem State.sample_dec (data : Bool) (pos : Nat) : (s.sample data pos).dec = s.dec := rfl
@[simp] theorem State.sample_frameStart (data : Bool) (pos : Nat) : (s.sample data pos).frameStart = s.frameStart := rfl
@[simp] theorem State.sample_asicFlag (data : Bool) (pos : Nat) : (s.sample data pos).asicFlag = s.asicFlag := rfl
@[simp] theorem State.sample_ctx (data : Bool) (pos : Nat) : (s.sample data pos).ctx = s.ctx := rfl
@[simp] theorem State.sample_opts (data : Bool) (pos : Nat) : (s.sample data pos).opts = s.opts := rfl
@[simp] theorem State.sample_par (data : Bool) (pos : Nat) : (s.sample data pos).par = s.par := rfl
@[simp] theorem State.sample_input (data : Bool) (pos : Nat) : (s.sample data pos).input = s.input := rfl
@[simp] theorem State.sample_output (data : Bool) (pos : Nat) : (s.sample data pos).output = s.output := rfl

/-! ### `enterSearch` -/

@[simp] theorem State.enterSearch_cls : s.enterSearch.cls = s.cls := rfl
@[simp] theorem State.enterSearch_curBit : s.enterSearch.curBit = s.curBit := rfl
@[simp] theorem State.enterSearch_pulseStart : s.enterSearch.pulseStart = s.pulseStart := rfl
@[simp] theorem State.enterSearch_fb : s.enterSearch.fb = s.fb := rfl
@[simp] theorem State.enterSearch_dec : s.enterSearch.dec = .search := rfl
@[simp] theorem State.enterSearch_frameStart : s.enterSearch.frameStart = s.frameStart := rfl
@[simp] theorem State.enterSearch_asicFlag : s.enterSearch.asicFlag = s.asicFlag := rfl
@[simp] theorem State.enterSearch_ctx : s.enterSearch.ctx = s.ctx := rfl
@[simp] theorem State.enterSearch_opts : s.enterSearch.opts = s.opts := rfl
@[simp] theorem State.enterSearch_par : s.enterSearch.par = s.par := rfl
@[simp] theorem State.enterSearch_input : s.enterSearch.input = s.input := rfl
@[simp] theorem State.enterSearch_output : s.enterSearch.output = s.output := rfl

/-! ### `startFrame` -/

@[simp] theorem State.startFrame_cls (pos : Nat) : (s.startFrame pos).cls = s.cls := rfl
@[simp] theorem State.startFrame_curBit (pos : Nat) : (s.startFrame pos).curBit = s.curBit := rfl
@[simp] theorem State.startFrame_pulseStart (pos : Nat) : (s.startFrame pos).pulseStart = s.pulseStart := rfl
@[simp] theorem State.startFrame_fb (pos : Nat) : (s.startFrame pos).fb = [] := rfl
@[simp] theorem State.startFrame_dec (pos : Nat) : (s.startFrame pos).dec = .inFrame := rfl
@[simp] theorem State.startFrame_frameStart (pos : Nat) : (s.startFrame pos).frameStart = pos := rfl
@[simp] theorem State.startFrame_asicFlag (pos : Nat) : (s.startFrame pos).asicFlag = s.asicFlag := rfl
@[simp] theorem State.startFrame_ctx (pos : Nat) : (s.startFrame pos).ctx = s.ctx := rfl
@[simp] theorem State.startFrame_opts (pos : Nat) : (s.startFrame pos).opts = s.opts := rfl
@[simp] theorem State.startFrame_par (pos : Nat) : (s.startFrame pos).par = s.par := rfl
@[simp] theorem State.startFrame_input (pos : Nat) : (s.startFrame pos).input = s.input := rfl
@[simp] theorem State.startFrame_output (pos : Nat) : (s.startFrame pos).output = s.output := rfl

/-! ### `enterSkip` -/

@[simp] theorem State.enterSkip_cls : s.enterSkip.cls = .skipToFall := rfl
@[simp] theorem State.enterSkip_curBit : s.enterSkip.curBit = s.curBit := rfl
@[simp] theorem State.enterSkip_pulseStart : s.enterSkip.pulseStart = s.pulseStart := rfl
@[simp] theorem State.enterSkip_fb : s.enterSkip.fb = s.fb := rfl
@[simp] theorem State.enterSkip_dec : s.enterSkip.dec = s.dec := rfl
@[simp] theorem State.enterSkip_frameStart : s.enterSkip.frameStart = s.frameStart := rfl
@[simp] theorem State.enterSkip_asicFlag : s.enterSkip.asicFlag = s.asicFlag := rfl
@[simp] theorem State.enterSkip_ctx : s.enterSkip.ctx = s.ctx := rfl
@[simp] theorem State.enterSkip_opts : s.enterSkip.opts = s.opts := rfl
@[simp] theorem State.enterSkip_par : s.enterSkip.par = s.par := rfl
@[simp] theorem State.enterSkip_input : s.enterSkip.input = s.input := rfl
@[simp] theorem State.enterSkip_output : s.enterSkip.output = s.output := rfl

/-! ### `leaveSkip` -/

@[simp] theorem State.leaveSkip_cls : s.leaveSkip.cls = .observe := rfl
@[simp] theorem State.leaveSkip_curBit : s.leaveSkip.curBit = s.curBit := rfl
@[simp] theorem State.leaveSkip_pulseStart : s.leaveSkip.pulseStart = s.pulseStart := rfl
@[simp] theorem State.leaveSkip_fb : s.leaveSkip.fb = s.fb := rfl
@[simp] theorem State.leaveSkip_dec : s.leaveSkip.dec = s.dec := rfl
@[simp] theorem State.leaveSkip_frameStart : s.leaveSkip.frameStart = s.frameStart := rfl
@[simp] theorem State.leaveSkip_asicFlag : s.leaveSkip.asicFlag = s.asicFlag := rfl
@[simp] theorem State.leaveSkip_ctx : s.leaveSkip.ctx = s.ctx := rfl
@[simp] theorem State.leaveSkip_opts : s.leaveSkip.opts = s.opts := rfl
@[simp] theorem State.leaveSkip_par : s.leaveSkip.par = s.par := rfl
@[simp] theorem State.leaveSkip_input : s.leaveSkip.input = s.input := rfl
@[simp] theorem State.leaveSkip_output : s.leaveSkip.output = s.output := rfl

/-! ### `closeRun` -/

@[simp] theorem State.closeRun_cls : s.closeRun.cls = s.cls := rfl
@[simp] theorem State.closeRun_curBit : s.closeRun.curBit = s.curBit := rfl
@[simp] theorem State.closeRun_pulseStart : s.closeRun.pulseStart = s.pulseStart := rfl
@[simp] theorem State.closeRun_fb : s.closeRun.fb = s.fb := rfl
@[simp] theorem State.closeRun_dec : s.closeRun.dec = s.dec := rfl
@[simp] theorem State.closeRun_frameStart : s.closeRun.frameStart = s.frameStart := rfl
@[simp] theorem State.closeRun_asicFlag : s.closeRun.asicFlag = s.asicFlag := rfl
@[simp] theorem State.closeRun_ctx : s.closeRun.ctx = s.ctx.clearRun := rfl
@[simp] theorem State.closeRun_opts : s.closeRun.opts = s.opts := rfl
@[simp] theorem State.closeRun_par : s.closeRun.par = s.par := rfl
@[simp] theorem State.closeRun_input : s.closeRun.input = s.input := rfl
@[simp] theorem State.closeRun_output : s.closeRun.output = s.output ++ recordsIf s.ctx.runOpen [s.ctx.runRecord] := rfl

/-! ### `countDataFrame` -/

@[simp] theorem State.countDataFrame_cls (endPos : Nat) : (s.countDataFrame endPos).cls = s.cls := rfl
@[simp] theorem State.countDataFrame_curBit (endPos : Nat) : (s.countDataFrame endPos).curBit = s.curBit := rfl
@[simp] theorem State.countDataFrame_pulseStart (endPos : Nat) : (s.countDataFrame endPos).pulseStart = s.pulseStart := rfl
@[simp] theorem State.countDataFrame_fb (endPos : Nat) : (s.countDataFrame endPos).fb = s.fb := rfl
@[simp] theorem State.countDataFrame_dec (endPos : Nat) : (s.countDataFrame endPos).dec = s.dec := rfl
@[simp] theorem State.countDataFrame_frameStart (endPos : Nat) : (s.countDataFrame endPos).frameStart = s.frameStart := rfl
@[simp] theorem State.countDataFrame_asicFlag (endPos : Nat) : (s.countDataFrame endPos).asicFlag = s.asicFlag := rfl
@[simp] theorem State.countDataFrame_ctx (endPos : Nat) : (s.countDataFrame endPos).ctx = (s.ctx.openRun s.frameStart).advanceRun s.par.cntW endPos := rfl
@[simp] theorem State.countDataFrame_opts (endPos : Nat) : (s.countDataFrame endPos).opts = s.opts := rfl
@[simp] theorem State.countDataFrame_par (endPos : Nat) : (s.countDataFrame endPos).par = s.par := rfl
@[simp] theorem State.countDataFrame_input (endPos : Nat) : (s.countDataFrame endPos).input = s.input := rfl
@[simp] theorem State.countDataFrame_output (endPos : Nat) : (s.countDataFrame endPos).output = s.output := rfl

/-! ### `markDirection` -/

@[simp] theorem State.markDirection_cls (dv dir : Bool) : (s.markDirection dv dir).cls = s.cls := rfl
@[simp] theorem State.markDirection_curBit (dv dir : Bool) : (s.markDirection dv dir).curBit = s.curBit := rfl
@[simp] theorem State.markDirection_pulseStart (dv dir : Bool) : (s.markDirection dv dir).pulseStart = s.pulseStart := rfl
@[simp] theorem State.markDirection_fb (dv dir : Bool) : (s.markDirection dv dir).fb = s.fb := rfl
@[simp] theorem State.markDirection_dec (dv dir : Bool) : (s.markDirection dv dir).dec = s.dec := rfl
@[simp] theorem State.markDirection_frameStart (dv dir : Bool) : (s.markDirection dv dir).frameStart = s.frameStart := rfl
@[simp] theorem State.markDirection_asicFlag (dv dir : Bool) : (s.markDirection dv dir).asicFlag = (s.asicFlag || s.directionMarks dv dir) := rfl
@[simp] theorem State.markDirection_ctx (dv dir : Bool) : (s.markDirection dv dir).ctx = s.ctx := rfl
@[simp] theorem State.markDirection_opts (dv dir : Bool) : (s.markDirection dv dir).opts = s.opts := rfl
@[simp] theorem State.markDirection_par (dv dir : Bool) : (s.markDirection dv dir).par = s.par := rfl
@[simp] theorem State.markDirection_input (dv dir : Bool) : (s.markDirection dv dir).input = s.input := rfl
@[simp] theorem State.markDirection_output (dv dir : Bool) : (s.markDirection dv dir).output = s.output := rfl

/-! ### `clearAsicFlag` -/

@[simp] theorem State.clearAsicFlag_cls : s.clearAsicFlag.cls = s.cls := rfl
@[simp] theorem State.clearAsicFlag_curBit : s.clearAsicFlag.curBit = s.curBit := rfl
@[simp] theorem State.clearAsicFlag_pulseStart : s.clearAsicFlag.pulseStart = s.pulseStart := rfl
@[simp] theorem State.clearAsicFlag_fb : s.clearAsicFlag.fb = s.fb := rfl
@[simp] theorem State.clearAsicFlag_dec : s.clearAsicFlag.dec = s.dec := rfl
@[simp] theorem State.clearAsicFlag_frameStart : s.clearAsicFlag.frameStart = s.frameStart := rfl
@[simp] theorem State.clearAsicFlag_asicFlag : s.clearAsicFlag.asicFlag = false := rfl
@[simp] theorem State.clearAsicFlag_ctx : s.clearAsicFlag.ctx = s.ctx := rfl
@[simp] theorem State.clearAsicFlag_opts : s.clearAsicFlag.opts = s.opts := rfl
@[simp] theorem State.clearAsicFlag_par : s.clearAsicFlag.par = s.par := rfl
@[simp] theorem State.clearAsicFlag_input : s.clearAsicFlag.input = s.input := rfl
@[simp] theorem State.clearAsicFlag_output : s.clearAsicFlag.output = s.output := rfl

/-! ### `selRstContext` -/

@[simp] theorem State.selRstContext_cls (expect : Bool) : (s.selRstContext expect).cls = s.cls := rfl
@[simp] theorem State.selRstContext_curBit (expect : Bool) : (s.selRstContext expect).curBit = s.curBit := rfl
@[simp] theorem State.selRstContext_pulseStart (expect : Bool) : (s.selRstContext expect).pulseStart = s.pulseStart := rfl
@[simp] theorem State.selRstContext_fb (expect : Bool) : (s.selRstContext expect).fb = s.fb := rfl
@[simp] theorem State.selRstContext_dec (expect : Bool) : (s.selRstContext expect).dec = s.dec := rfl
@[simp] theorem State.selRstContext_frameStart (expect : Bool) : (s.selRstContext expect).frameStart = s.frameStart := rfl
@[simp] theorem State.selRstContext_asicFlag (expect : Bool) : (s.selRstContext expect).asicFlag = s.asicFlag := rfl
@[simp] theorem State.selRstContext_ctx (expect : Bool) : (s.selRstContext expect).ctx = { s.ctx with expectAsic := expect, curRegValid := false } := rfl
@[simp] theorem State.selRstContext_opts (expect : Bool) : (s.selRstContext expect).opts = s.opts := rfl
@[simp] theorem State.selRstContext_par (expect : Bool) : (s.selRstContext expect).par = s.par := rfl
@[simp] theorem State.selRstContext_input (expect : Bool) : (s.selRstContext expect).input = s.input := rfl
@[simp] theorem State.selRstContext_output (expect : Bool) : (s.selRstContext expect).output = s.output := rfl

/-! ### `sctlContext` -/

@[simp] theorem State.sctlContext_cls (expect : Bool) (reg : RegNum) : (s.sctlContext expect reg).cls = s.cls := rfl
@[simp] theorem State.sctlContext_curBit (expect : Bool) (reg : RegNum) : (s.sctlContext expect reg).curBit = s.curBit := rfl
@[simp] theorem State.sctlContext_pulseStart (expect : Bool) (reg : RegNum) : (s.sctlContext expect reg).pulseStart = s.pulseStart := rfl
@[simp] theorem State.sctlContext_fb (expect : Bool) (reg : RegNum) : (s.sctlContext expect reg).fb = s.fb := rfl
@[simp] theorem State.sctlContext_dec (expect : Bool) (reg : RegNum) : (s.sctlContext expect reg).dec = s.dec := rfl
@[simp] theorem State.sctlContext_frameStart (expect : Bool) (reg : RegNum) : (s.sctlContext expect reg).frameStart = s.frameStart := rfl
@[simp] theorem State.sctlContext_asicFlag (expect : Bool) (reg : RegNum) : (s.sctlContext expect reg).asicFlag = s.asicFlag := rfl
@[simp] theorem State.sctlContext_ctx (expect : Bool) (reg : RegNum) : (s.sctlContext expect reg).ctx = { s.ctx with expectAsic := expect, curReg := reg, curRegValid := true } := rfl
@[simp] theorem State.sctlContext_opts (expect : Bool) (reg : RegNum) : (s.sctlContext expect reg).opts = s.opts := rfl
@[simp] theorem State.sctlContext_par (expect : Bool) (reg : RegNum) : (s.sctlContext expect reg).par = s.par := rfl
@[simp] theorem State.sctlContext_input (expect : Bool) (reg : RegNum) : (s.sctlContext expect reg).input = s.input := rfl
@[simp] theorem State.sctlContext_output (expect : Bool) (reg : RegNum) : (s.sctlContext expect reg).output = s.output := rfl

/-! ### `consume` -/

@[simp] theorem State.consume_cls : s.consume.cls = s.cls := rfl
@[simp] theorem State.consume_curBit : s.consume.curBit = s.curBit := rfl
@[simp] theorem State.consume_pulseStart : s.consume.pulseStart = s.pulseStart := rfl
@[simp] theorem State.consume_fb : s.consume.fb = s.fb := rfl
@[simp] theorem State.consume_dec : s.consume.dec = s.dec := rfl
@[simp] theorem State.consume_frameStart : s.consume.frameStart = s.frameStart := rfl
@[simp] theorem State.consume_asicFlag : s.consume.asicFlag = s.asicFlag := rfl
@[simp] theorem State.consume_ctx : s.consume.ctx = s.ctx := rfl
@[simp] theorem State.consume_opts : s.consume.opts = s.opts := rfl
@[simp] theorem State.consume_par : s.consume.par = s.par := rfl
@[simp] theorem State.consume_input : s.consume.input = s.input.tail := rfl
@[simp] theorem State.consume_output : s.consume.output = s.output := rfl

end Sys2Proof.Machine
end

