-- ==== Sys2Proof/Laws/Ops.lean ====
section
/-!
SUPPORT. For each shared operation, one lemma that says once what it does, so that later proofs cite it instead of unfolding
the operation.
-/

namespace Sys2Proof.Machine

@[simp] theorem frameLen_eq : Config.frameLen = 12 := rfl

@[simp] theorem minPulse_eq : Config.minPulse = 2 := rfl

@[simp] theorem asicBitCount_eq : Config.asicBitCount = 4 := rfl

/-! ### The glitch filter (R153) -/

theorem narrowPulse_iff (start pos : Nat) : narrowPulse start pos = true ↔ pos < start + 2 := by
  rw [narrowPulse, decide_eq_true_iff, minPulse_eq]
  omega

theorem narrowPulse_false_iff (start pos : Nat) : narrowPulse start pos = false ↔ start + 2 ≤ pos := by
  rw [← Bool.not_eq_true, narrowPulse_iff]
  omega

/-! ### Records -/

@[simp] theorem recordsIf_true (rs : List Record) : recordsIf true rs = rs := rfl

@[simp] theorem recordsIf_false (rs : List Record) : recordsIf false rs = [] := rfl

theorem recordsIf_length_le (b : Bool) (rs : List Record) : (recordsIf b rs).length ≤ rs.length := by
  cases b <;> simp

theorem mem_recordsIf {b : Bool} {rs : List Record} {r : Record} : r ∈ recordsIf b rs ↔ b = true ∧ r ∈ rs := by
  cases b <;> simp

/-! ### The frame buffer (R21, R154, R157) -/

theorem clamp_length (s : State) : s.clamp.fb.length = min s.fb.length 12 := by
  simp only [State.clamp_fb, frameLen_eq, List.length_drop]
  omega

theorem clamp_of_le (s : State) (h : s.fb.length ≤ 12) : s.clamp = s := by
  have h0 : s.fb.length - 12 = 0 := by omega
  simp [State.clamp, h0]

/-- An entry that is there gives its position. -/
theorem fbPos_of_getElem? {s : State} {i : Nat} {e : Entry} (h : s.fb[i]? = some e) : s.fbPos i = e.pos := by
  simp [State.fbPos, h]

/-- The positions of a buffer that is long enough are those of its entries. -/
theorem fbPos_of_lt {s : State} {i : Nat} (h : i < s.fb.length) : s.fbPos i = s.fb[i].pos :=
  fbPos_of_getElem? (List.getElem?_eq_getElem h)

/-! ### The frame word (R9, R13) -/

theorem foldBits_lt (bs : List Bool) : foldBits bs < 2 ^ bs.length := by
  induction bs with
  | nil => simp [foldBits]
  | cons b bs ih =>
    have hb : b.toNat ≤ 1 := Bool.toNat_le b
    simp only [foldBits, List.length_cons, Nat.pow_succ]
    omega

/-- Bit `i` of the fold is the `i`-th bit of the sequence. -/
theorem foldBits_testBit (bs : List Bool) (i : Nat) : (foldBits bs).testBit i = (bs[i]?).getD false := by
  induction bs generalizing i with
  | nil => simp [foldBits]
  | cons b bs ih =>
    cases i with
    | zero => cases b <;> simp [foldBits, Nat.testBit_zero]
    | succ i =>
      have h : (b.toNat + 2 * foldBits bs) / 2 = foldBits bs := by
        have hb : b.toNat ≤ 1 := Bool.toNat_le b
        omega
      simp [foldBits, Nat.testBit_succ, h, ih]

/-- `W[i] = fb_bit[i]` (R9, R93). -/
theorem frameWord_getLsbD (s : State) (i : Nat) (h : i < 12) :
    s.frameWord.getLsbD i = (((s.fb.map Entry.bit)[i]?).getD false) := by
  rw [State.frameWord, BitVec.getLsbD_ofNat, foldBits_testBit]
  simp [h]

/-- A full buffer's word is zero exactly when every bit is. -/
theorem frameWord_eq_zero_iff (s : State) (h : s.fb.length = 12) : s.frameWord = 0 ↔ ∀ e ∈ s.fb, e.bit = false := by
  constructor
  · intro hw e he
    obtain ⟨i, hi, rfl⟩ := List.mem_iff_getElem.1 he
    have hb := frameWord_getLsbD s i (by omega)
    simpa [hw, hi] using hb.symm
  · intro hz
    apply BitVec.eq_of_getLsbD_eq
    intro i hi
    rw [frameWord_getLsbD s i hi]
    have h12 : i < s.fb.length := by omega
    simp [h12, hz]

/-! ### Runs (R213 to R216) -/

@[simp] theorem clearRun_runOpen (c : ControlContext) : c.clearRun.runOpen = false := by
  cases h : c.runOpen <;> simp [ControlContext.clearRun, h]

@[simp] theorem clearRun_runEnd (c : ControlContext) : c.clearRun.runEnd = c.runEnd := by
  cases h : c.runOpen <;> simp [ControlContext.clearRun, h]

@[simp] theorem clearRun_runCount (c : ControlContext) : c.clearRun.runCount = if c.runOpen then 0 else c.runCount := by
  cases h : c.runOpen <;> simp [ControlContext.clearRun, h]

@[simp] theorem clearRun_runStart (c : ControlContext) : c.clearRun.runStart = if c.runOpen then 0 else c.runStart := by
  cases h : c.runOpen <;> simp [ControlContext.clearRun, h]

@[simp] theorem clearRun_expectAsic (c : ControlContext) : c.clearRun.expectAsic = c.expectAsic := by
  cases h : c.runOpen <;> simp [ControlContext.clearRun, h]

@[simp] theorem clearRun_curReg (c : ControlContext) : c.clearRun.curReg = c.curReg := by
  cases h : c.runOpen <;> simp [ControlContext.clearRun, h]

@[simp] theorem clearRun_curRegValid (c : ControlContext) : c.clearRun.curRegValid = c.curRegValid := by
  cases h : c.runOpen <;> simp [ControlContext.clearRun, h]

/-- The Control Context after a Data frame, field by field (R210, R213, R215). -/
theorem advanceRun_openRun (c : ControlContext) (cntW : Nat) (start endPos : Nat) :
    (c.openRun start).advanceRun cntW endPos =
      { c with runOpen := true, runStart := if c.runOpen then c.runStart else start, runEnd := endPos
               runCount := saturatingSucc cntW c.runCount } := by
  cases h : c.runOpen <;> simp [ControlContext.openRun, ControlContext.advanceRun, h]

/-- The counter adds one below its largest value and stays there (R216). -/
theorem saturatingSucc_eq (cntW : Nat) (n : Nat) : saturatingSucc cntW n = min (n + 1) (2 ^ cntW - 1) := rfl

/-- The counter fits its width (R216). -/
theorem saturatingSucc_lt (cntW : Nat) (n : Nat) : saturatingSucc cntW n < 2 ^ cntW := by
  have h := Nat.two_pow_pos cntW
  rw [saturatingSucc_eq]
  omega

/-- Below saturation the counter adds one (R215, R216). -/
theorem saturatingSucc_of_lt {cntW : Nat} {n : Nat} (h : n + 1 < 2 ^ cntW) : saturatingSucc cntW n = n + 1 := by
  rw [saturatingSucc_eq]
  omega

/-- A counter that has a bit is not 0 after a Data frame (R216). -/
theorem saturatingSucc_ne_zero {cntW : Nat} (hw : 0 < cntW) (n : Nat) : saturatingSucc cntW n ≠ 0 := by
  have h : 2 ≤ 2 ^ cntW := by simpa using Nat.pow_le_pow_right (show 0 < 2 by decide) hw
  rw [saturatingSucc_eq]
  omega

/-! ### The bit assembler (R150 to R157) -/

/-- ClockRise either marks a new frame's start or only samples (R150, R151). -/
theorem clockRise_cases (s : State) (data : Bool) (pos : Nat) :
    (((s.dec = .search ∧ data = true) ∨ s.fb = []) ∧ s.clockRise data pos = (s.sample data pos).startFrame pos) ∨
      (¬((s.dec = .search ∧ data = true) ∨ s.fb = []) ∧ s.clockRise data pos = s.sample data pos) := by
  by_cases h : (s.dec = .search ∧ data = true) ∨ s.fb = []
  · refine .inl ⟨h, ?_⟩
    have hs : (s.sample data pos).startsFrame data = true := by simpa [State.startsFrame] using h
    simp [State.clockRise, hs]
  · refine .inr ⟨h, ?_⟩
    have hs : (s.sample data pos).startsFrame data = false := by
      rw [← Bool.not_eq_true]
      simpa [State.startsFrame] using h
    simp [State.clockRise, hs]

/-- What an accepted pulse does before the test for completion, as one record update (R152, R154 to R157). -/
theorem acceptPulse_eq (s : State) (dv dir : Bool) (pos : Nat) :
    s.acceptPulse dv dir pos =
      { s with
        fb := (s.fb ++ [Entry.mk s.curBit s.pulseStart]).drop (s.fb.length + 1 - 12)
        asicFlag := s.asicFlag || (dv && s.fb.length + 1 == 4 && dir)
        output := s.output ++ recordsIf s.opts.showClk [s.pulseRecord pos .clk]
          ++ recordsIf s.opts.showBit [s.pulseRecord pos (.bit s.curBit)] } := by
  simp [State.acceptPulse, State.emit, State.append, State.markDirection, State.directionMarks, State.clamp,
    State.pulseRecord]

theorem acceptPulse_length (s : State) (dv dir : Bool) (pos : Nat) :
    (s.acceptPulse dv dir pos).fb.length = min (s.fb.length + 1) 12 := by
  simp only [acceptPulse_eq, List.length_drop, List.length_append, List.length_cons, List.length_nil]
  omega

/-- ClockFall ignores a narrow pulse, or accepts the pulse without completing a frame, or accepts it and completes the frame
(R152, R153, R158). -/
theorem clockFall_cases (s : State) (dv dir : Bool) (pos : Nat) :
    (narrowPulse s.pulseStart pos = true ∧ s.clockFall dv dir pos = s) ∨
      (narrowPulse s.pulseStart pos = false ∧ s.fb.length < 11 ∧ s.clockFall dv dir pos = s.acceptPulse dv dir pos) ∨
      (narrowPulse s.pulseStart pos = false ∧ 11 ≤ s.fb.length ∧
        s.clockFall dv dir pos = (s.acceptPulse dv dir pos).complete pos) := by
  cases hn : narrowPulse s.pulseStart pos with
  | true => exact .inl ⟨rfl, by simp [State.clockFall, hn]⟩
  | false =>
    have hl := acceptPulse_length s dv dir pos
    by_cases h : s.fb.length < 11
    · refine .inr (.inl ⟨rfl, h, ?_⟩)
      have hne : (s.acceptPulse dv dir pos).fb.length ≠ 12 := by omega
      simp [State.clockFall, hn, hne]
    · refine .inr (.inr ⟨rfl, by omega, ?_⟩)
      have heq : (s.acceptPulse dv dir pos).fb.length = 12 := by omega
      simp [State.clockFall, hn, heq]

/-! ### The frame operations (R171 to R174, R191 to R193, R210) -/

/-- The records a Control frame emits before those of its fields (R171, R214). -/
def controlHead (s : State) (endPos : Nat) : List Record :=
  s.frameRecord endPos .ctrlFrame :: recordsIf s.ctx.runOpen [s.ctx.runRecord]

theorem sresetFrame_eq (s : State) (addr : Addr) (endPos : Nat) :
    s.sresetFrame addr endPos =
      { s with
        fb := [], ctx := { s.ctx.clearRun with expectAsic := false, curRegValid := false }
        output := s.output ++ controlHead s endPos ++ s.selRstRecords false addr endPos } := by
  simp [State.sresetFrame, State.controlFrame, State.sresetFields, State.emit, State.closeRun, State.selRstContext,
    State.clearBuffer, controlHead, sresetExpects, State.selRstRecords, State.frameRecord, State.spanRecord, State.spanEnd,
    State.fbPos]

theorem sselFrame_eq (s : State) (addr : Addr) (endPos : Nat) :
    s.sselFrame addr endPos =
      { s with
        fb := [], ctx := { s.ctx.clearRun with expectAsic := addr != 0, curRegValid := false }
        output := s.output ++ controlHead s endPos ++ s.selRstRecords true addr endPos } := by
  simp [State.sselFrame, State.controlFrame, State.sselFields, State.emit, State.closeRun, State.selRstContext,
    State.clearBuffer, controlHead, sselExpects, State.selRstRecords, State.frameRecord, State.spanRecord, State.spanEnd,
    State.fbPos]

theorem sctlFrame_eq (s : State) (sm bw rw : Bool) (reg : RegNum) (endPos : Nat) :
    s.sctlFrame sm bw rw reg endPos =
      { s with
        fb := [], ctx := { s.ctx.clearRun with expectAsic := rw == s.par.rwRead, curReg := reg, curRegValid := true }
        output := s.output ++ controlHead s endPos ++ s.sctlRecords sm bw rw reg endPos } := by
  simp [State.sctlFrame, State.controlFrame, State.sctlFields, State.emit, State.closeRun, State.sctlContext,
    State.clearBuffer, controlHead, sctlExpects, State.sctlRecords, State.frameRecord, State.spanRecord, State.spanEnd,
    State.fbPos]

theorem dataFrame_eq (s : State) (value : ByteField) (endPos : Nat) :
    s.dataFrame value endPos =
      { s with
        fb := [], asicFlag := false, ctx := (s.ctx.openRun s.frameStart).advanceRun s.par.cntW endPos
        output := s.output ++ [s.frameRecord endPos .dataFrame, s.spanRecord 3 10 endPos (s.dataChannel value)] } := rfl

theorem nullFrame_eq (s : State) (endPos : Nat) :
    s.nullFrame endPos =
      { s with dec := .search, output := s.output ++ [{ ss := endPos, es := endPos, body := .nullFrame }] } := rfl

theorem unclassifiedFrame_eq (s : State) (raw : FrameWord) (endPos : Nat) :
    s.unclassifiedFrame raw endPos =
      { s with
        fb := if s.dec = .search then s.fb else []
        output := s.output ++ recordsIf s.opts.showDebug [s.frameRecord endPos (.rawFrame raw)] } := by
  by_cases h : s.dec = .search <;> simp [State.unclassifiedFrame, State.emit, State.clearBuffer, h]

/-- Completion performs exactly one of the six frame operations (R158, R170, R176(a), R190). -/
theorem complete_cases (s : State) (endPos : Nat) :
    (classify s.frameWord = .control ∧ discField s.frameWord = false ∧ selField s.frameWord = false ∧
        s.complete endPos = s.sresetFrame (addrField s.frameWord) endPos) ∨
      (classify s.frameWord = .control ∧ discField s.frameWord = false ∧ selField s.frameWord = true ∧
        s.complete endPos = s.sselFrame (addrField s.frameWord) endPos) ∨
      (classify s.frameWord = .control ∧ discField s.frameWord = true ∧
        s.complete endPos = s.sctlFrame (smField s.frameWord) (bwField s.frameWord) (rwField s.frameWord)
          (regField s.frameWord) endPos) ∨
      (classify s.frameWord = .data ∧ s.complete endPos = s.dataFrame (byteField s.frameWord) endPos) ∨
      (classify s.frameWord = .null ∧ s.complete endPos = s.nullFrame endPos) ∨
      (classify s.frameWord = .unclassified ∧ s.complete endPos = s.unclassifiedFrame s.frameWord endPos) := by
  cases hc : classify s.frameWord <;> cases hd : discField s.frameWord <;> cases hs : selField s.frameWord <;>
    simp [State.complete, State.completeControl, hc, hd, hs]

/-- The classifier's result says which bits the word has (R170). -/
theorem classify_null_iff (w : FrameWord) : classify w = .null ↔ w = 0 := by
  constructor
  · intro h
    unfold classify at h
    split at h
    · cases h
    · split at h
      · cases h
      · split at h
        · assumption
        · cases h
  · rintro rfl
    rfl

/-- Completion is the meaning of the instruction the frame word decodes to (R158, R190). -/
theorem exec_decodeFrame (s : State) (endPos : Nat) :
    exec (decodeFrame s.frameWord endPos) s = .next (s.complete endPos) := by
  unfold decodeFrame State.complete
  cases classify s.frameWord with
  | control =>
    unfold decodeControl State.completeControl
    cases discField s.frameWord <;> cases selField s.frameWord <;> rfl
  | data => rfl
  | null => rfl
  | unclassified => rfl

/-! ### The step -/

/-- A step with nothing to take changes nothing; any other performs the operation of the event it takes. -/
theorem step_cons (s : State) (ev : Event) (rest : List Event) (h : s.input = ev :: rest) :
    step s = exec (s.operationOf ev) s.consume := by
  simp [step, h]

theorem step_cases {s t : State} (h : step s = .next t) :
    (s.input = [] ∧ t = s) ∨
      ∃ ev rest, s.input = ev :: rest ∧ exec (s.operationOf ev) s.consume = .next t := by
  cases hi : s.input with
  | nil =>
    left
    simp [step, hi] at h
    exact ⟨rfl, h.symm⟩
  | cons ev rest => exact .inr ⟨ev, rest, rfl, by rw [← step_cons s ev rest hi]; exact h⟩

/-- What an instruction can do, as one inversion: the next state is one of these, by the instruction's family. -/
theorem exec_cases {i : Instr} {s t : State} (h : exec i s = .next t) :
    (∃ addr e, i = .sreset addr e ∧ t = s.sresetFrame addr e) ∨
      (∃ addr e, i = .ssel addr e ∧ t = s.sselFrame addr e) ∨
      (∃ sm bw rw reg e, i = .sctl sm bw rw reg e ∧ t = s.sctlFrame sm bw rw reg e) ∨
      (∃ v e, i = .data v e ∧ t = s.dataFrame v e) ∨
      (∃ e, i = .null e ∧ t = s.nullFrame e) ∨
      (∃ raw e, i = .unclassified raw e ∧ t = s.unclassifiedFrame raw e) ∨
      (∃ td d dv dir p, i = .evSkipEnd td d dv dir p ∧ t = s.leaveSkip) ∨
      (∃ dv dir p, i = .evInterference dv dir p ∧ t = s.enterSkip) ∨
      (∃ td d dv dir p, i = .evClkRise td d dv dir p ∧ t = s.clockRise d p) ∨
      (∃ td d dv dir p, i = .evClkFall td d dv dir p ∧ t = s.clockFall dv dir p) ∨
      t = s := by
  cases i with
  | sreset addr e => cases h; exact .inl ⟨addr, e, rfl, rfl⟩
  | ssel addr e => cases h; exact .inr <| .inl ⟨addr, e, rfl, rfl⟩
  | sctl sm bw rw reg e => cases h; exact .inr <| .inr <| .inl ⟨sm, bw, rw, reg, e, rfl, rfl⟩
  | data v e => cases h; exact .inr <| .inr <| .inr <| .inl ⟨v, e, rfl, rfl⟩
  | null e => cases h; exact .inr <| .inr <| .inr <| .inr <| .inl ⟨e, rfl, rfl⟩
  | unclassified raw e => cases h; exact .inr <| .inr <| .inr <| .inr <| .inr <| .inl ⟨raw, e, rfl, rfl⟩
  | evSkipEnd td d dv dir p => cases h; exact .inr <| .inr <| .inr <| .inr <| .inr <| .inr <| .inl ⟨td, d, dv, dir, p, rfl, rfl⟩
  | evInterference dv dir p => cases h; exact .inr <| .inr <| .inr <| .inr <| .inr <| .inr <| .inr <| .inl ⟨dv, dir, p, rfl, rfl⟩
  | evClkRise td d dv dir p => cases h; exact .inr <| .inr <| .inr <| .inr <| .inr <| .inr <| .inr <| .inr <| .inl ⟨td, d, dv, dir, p, rfl, rfl⟩
  | evClkFall td d dv dir p => cases h; exact .inr <| .inr <| .inr <| .inr <| .inr <| .inr <| .inr <| .inr <| .inr <| .inl ⟨td, d, dv, dir, p, rfl, rfl⟩
  | evSkipHoldNoClock => cases h; exact .inr <| .inr <| .inr <| .inr <| .inr <| .inr <| .inr <| .inr <| .inr <| .inr rfl
  | evSkipHoldClockHigh => cases h; exact .inr <| .inr <| .inr <| .inr <| .inr <| .inr <| .inr <| .inr <| .inr <| .inr rfl
  | evNoise => cases h; exact .inr <| .inr <| .inr <| .inr <| .inr <| .inr <| .inr <| .inr <| .inr <| .inr rfl
  | evDataOnlyClockLow => cases h; exact .inr <| .inr <| .inr <| .inr <| .inr <| .inr <| .inr <| .inr <| .inr <| .inr rfl
  | evDataOnlyClockHigh => cases h; exact .inr <| .inr <| .inr <| .inr <| .inr <| .inr <| .inr <| .inr <| .inr <| .inr rfl
  | evNone => cases h; exact .inr <| .inr <| .inr <| .inr <| .inr <| .inr <| .inr <| .inr <| .inr <| .inr rfl

end Sys2Proof.Machine
end

