-- ==== Sys2Proof/Laws/Frames.lean ====
section
/-!
SUPPORT. The frame of each composed operation: one simp lemma per field it leaves alone, so that a proof about what a step
writes cites these and looks only at the fields that change.
-/

namespace Sys2Proof.Machine

variable (s : State)

/-! ### `acceptPulse` -/

@[simp] theorem State.acceptPulse_cls (dv dir : Bool) (pos : Nat) : (s.acceptPulse dv dir pos).cls = s.cls := by
  rw [acceptPulse_eq]
@[simp] theorem State.acceptPulse_curBit (dv dir : Bool) (pos : Nat) : (s.acceptPulse dv dir pos).curBit = s.curBit := by
  rw [acceptPulse_eq]
@[simp] theorem State.acceptPulse_pulseStart (dv dir : Bool) (pos : Nat) : (s.acceptPulse dv dir pos).pulseStart = s.pulseStart := by
  rw [acceptPulse_eq]
@[simp] theorem State.acceptPulse_dec (dv dir : Bool) (pos : Nat) : (s.acceptPulse dv dir pos).dec = s.dec := by
  rw [acceptPulse_eq]
@[simp] theorem State.acceptPulse_frameStart (dv dir : Bool) (pos : Nat) : (s.acceptPulse dv dir pos).frameStart = s.frameStart := by
  rw [acceptPulse_eq]
@[simp] theorem State.acceptPulse_ctx (dv dir : Bool) (pos : Nat) : (s.acceptPulse dv dir pos).ctx = s.ctx := by
  rw [acceptPulse_eq]
@[simp] theorem State.acceptPulse_opts (dv dir : Bool) (pos : Nat) : (s.acceptPulse dv dir pos).opts = s.opts := by
  rw [acceptPulse_eq]
@[simp] theorem State.acceptPulse_par (dv dir : Bool) (pos : Nat) : (s.acceptPulse dv dir pos).par = s.par := by
  rw [acceptPulse_eq]
@[simp] theorem State.acceptPulse_input (dv dir : Bool) (pos : Nat) : (s.acceptPulse dv dir pos).input = s.input := by
  rw [acceptPulse_eq]

/-! ### `sresetFrame` -/

@[simp] theorem State.sresetFrame_cls (addr : Addr) (e : Nat) : (s.sresetFrame addr e).cls = s.cls := by
  rw [sresetFrame_eq]
@[simp] theorem State.sresetFrame_curBit (addr : Addr) (e : Nat) : (s.sresetFrame addr e).curBit = s.curBit := by
  rw [sresetFrame_eq]
@[simp] theorem State.sresetFrame_pulseStart (addr : Addr) (e : Nat) : (s.sresetFrame addr e).pulseStart = s.pulseStart := by
  rw [sresetFrame_eq]
@[simp] theorem State.sresetFrame_dec (addr : Addr) (e : Nat) : (s.sresetFrame addr e).dec = s.dec := by
  rw [sresetFrame_eq]
@[simp] theorem State.sresetFrame_frameStart (addr : Addr) (e : Nat) : (s.sresetFrame addr e).frameStart = s.frameStart := by
  rw [sresetFrame_eq]
@[simp] theorem State.sresetFrame_asicFlag (addr : Addr) (e : Nat) : (s.sresetFrame addr e).asicFlag = s.asicFlag := by
  rw [sresetFrame_eq]
@[simp] theorem State.sresetFrame_opts (addr : Addr) (e : Nat) : (s.sresetFrame addr e).opts = s.opts := by
  rw [sresetFrame_eq]
@[simp] theorem State.sresetFrame_par (addr : Addr) (e : Nat) : (s.sresetFrame addr e).par = s.par := by
  rw [sresetFrame_eq]
@[simp] theorem State.sresetFrame_input (addr : Addr) (e : Nat) : (s.sresetFrame addr e).input = s.input := by
  rw [sresetFrame_eq]
@[simp] theorem State.sresetFrame_fb (addr : Addr) (e : Nat) : (s.sresetFrame addr e).fb = [] := by
  rw [sresetFrame_eq]

/-! ### `sselFrame` -/

@[simp] theorem State.sselFrame_cls (addr : Addr) (e : Nat) : (s.sselFrame addr e).cls = s.cls := by
  rw [sselFrame_eq]
@[simp] theorem State.sselFrame_curBit (addr : Addr) (e : Nat) : (s.sselFrame addr e).curBit = s.curBit := by
  rw [sselFrame_eq]
@[simp] theorem State.sselFrame_pulseStart (addr : Addr) (e : Nat) : (s.sselFrame addr e).pulseStart = s.pulseStart := by
  rw [sselFrame_eq]
@[simp] theorem State.sselFrame_dec (addr : Addr) (e : Nat) : (s.sselFrame addr e).dec = s.dec := by
  rw [sselFrame_eq]
@[simp] theorem State.sselFrame_frameStart (addr : Addr) (e : Nat) : (s.sselFrame addr e).frameStart = s.frameStart := by
  rw [sselFrame_eq]
@[simp] theorem State.sselFrame_asicFlag (addr : Addr) (e : Nat) : (s.sselFrame addr e).asicFlag = s.asicFlag := by
  rw [sselFrame_eq]
@[simp] theorem State.sselFrame_opts (addr : Addr) (e : Nat) : (s.sselFrame addr e).opts = s.opts := by
  rw [sselFrame_eq]
@[simp] theorem State.sselFrame_par (addr : Addr) (e : Nat) : (s.sselFrame addr e).par = s.par := by
  rw [sselFrame_eq]
@[simp] theorem State.sselFrame_input (addr : Addr) (e : Nat) : (s.sselFrame addr e).input = s.input := by
  rw [sselFrame_eq]
@[simp] theorem State.sselFrame_fb (addr : Addr) (e : Nat) : (s.sselFrame addr e).fb = [] := by
  rw [sselFrame_eq]

/-! ### `sctlFrame` -/

@[simp] theorem State.sctlFrame_cls (sm bw rw : Bool) (reg : RegNum) (e : Nat) : (s.sctlFrame sm bw rw reg e).cls = s.cls := by
  rw [sctlFrame_eq]
@[simp] theorem State.sctlFrame_curBit (sm bw rw : Bool) (reg : RegNum) (e : Nat) : (s.sctlFrame sm bw rw reg e).curBit = s.curBit := by
  rw [sctlFrame_eq]
@[simp] theorem State.sctlFrame_pulseStart (sm bw rw : Bool) (reg : RegNum) (e : Nat) : (s.sctlFrame sm bw rw reg e).pulseStart = s.pulseStart := by
  rw [sctlFrame_eq]
@[simp] theorem State.sctlFrame_dec (sm bw rw : Bool) (reg : RegNum) (e : Nat) : (s.sctlFrame sm bw rw reg e).dec = s.dec := by
  rw [sctlFrame_eq]
@[simp] theorem State.sctlFrame_frameStart (sm bw rw : Bool) (reg : RegNum) (e : Nat) : (s.sctlFrame sm bw rw reg e).frameStart = s.frameStart := by
  rw [sctlFrame_eq]
@[simp] theorem State.sctlFrame_asicFlag (sm bw rw : Bool) (reg : RegNum) (e : Nat) : (s.sctlFrame sm bw rw reg e).asicFlag = s.asicFlag := by
  rw [sctlFrame_eq]
@[simp] theorem State.sctlFrame_opts (sm bw rw : Bool) (reg : RegNum) (e : Nat) : (s.sctlFrame sm bw rw reg e).opts = s.opts := by
  rw [sctlFrame_eq]
@[simp] theorem State.sctlFrame_par (sm bw rw : Bool) (reg : RegNum) (e : Nat) : (s.sctlFrame sm bw rw reg e).par = s.par := by
  rw [sctlFrame_eq]
@[simp] theorem State.sctlFrame_input (sm bw rw : Bool) (reg : RegNum) (e : Nat) : (s.sctlFrame sm bw rw reg e).input = s.input := by
  rw [sctlFrame_eq]
@[simp] theorem State.sctlFrame_fb (sm bw rw : Bool) (reg : RegNum) (e : Nat) : (s.sctlFrame sm bw rw reg e).fb = [] := by
  rw [sctlFrame_eq]

/-! ### `dataFrame` -/

@[simp] theorem State.dataFrame_cls (v : ByteField) (e : Nat) : (s.dataFrame v e).cls = s.cls := rfl
@[simp] theorem State.dataFrame_curBit (v : ByteField) (e : Nat) : (s.dataFrame v e).curBit = s.curBit := rfl
@[simp] theorem State.dataFrame_pulseStart (v : ByteField) (e : Nat) : (s.dataFrame v e).pulseStart = s.pulseStart := rfl
@[simp] theorem State.dataFrame_dec (v : ByteField) (e : Nat) : (s.dataFrame v e).dec = s.dec := rfl
@[simp] theorem State.dataFrame_frameStart (v : ByteField) (e : Nat) : (s.dataFrame v e).frameStart = s.frameStart := rfl
@[simp] theorem State.dataFrame_opts (v : ByteField) (e : Nat) : (s.dataFrame v e).opts = s.opts := rfl
@[simp] theorem State.dataFrame_par (v : ByteField) (e : Nat) : (s.dataFrame v e).par = s.par := rfl
@[simp] theorem State.dataFrame_input (v : ByteField) (e : Nat) : (s.dataFrame v e).input = s.input := rfl
@[simp] theorem State.dataFrame_fb (v : ByteField) (e : Nat) : (s.dataFrame v e).fb = [] := rfl
@[simp] theorem State.dataFrame_asicFlag (v : ByteField) (e : Nat) : (s.dataFrame v e).asicFlag = false := rfl

/-! ### `nullFrame` -/

@[simp] theorem State.nullFrame_cls (e : Nat) : (s.nullFrame e).cls = s.cls := rfl
@[simp] theorem State.nullFrame_curBit (e : Nat) : (s.nullFrame e).curBit = s.curBit := rfl
@[simp] theorem State.nullFrame_pulseStart (e : Nat) : (s.nullFrame e).pulseStart = s.pulseStart := rfl
@[simp] theorem State.nullFrame_fb (e : Nat) : (s.nullFrame e).fb = s.fb := rfl
@[simp] theorem State.nullFrame_frameStart (e : Nat) : (s.nullFrame e).frameStart = s.frameStart := rfl
@[simp] theorem State.nullFrame_asicFlag (e : Nat) : (s.nullFrame e).asicFlag = s.asicFlag := rfl
@[simp] theorem State.nullFrame_ctx (e : Nat) : (s.nullFrame e).ctx = s.ctx := rfl
@[simp] theorem State.nullFrame_opts (e : Nat) : (s.nullFrame e).opts = s.opts := rfl
@[simp] theorem State.nullFrame_par (e : Nat) : (s.nullFrame e).par = s.par := rfl
@[simp] theorem State.nullFrame_input (e : Nat) : (s.nullFrame e).input = s.input := rfl
@[simp] theorem State.nullFrame_dec (e : Nat) : (s.nullFrame e).dec = .search := rfl

/-! ### `unclassifiedFrame` -/

@[simp] theorem State.unclassifiedFrame_cls (w : FrameWord) (e : Nat) : (s.unclassifiedFrame w e).cls = s.cls := by
  rw [unclassifiedFrame_eq]
@[simp] theorem State.unclassifiedFrame_curBit (w : FrameWord) (e : Nat) : (s.unclassifiedFrame w e).curBit = s.curBit := by
  rw [unclassifiedFrame_eq]
@[simp] theorem State.unclassifiedFrame_pulseStart (w : FrameWord) (e : Nat) : (s.unclassifiedFrame w e).pulseStart = s.pulseStart := by
  rw [unclassifiedFrame_eq]
@[simp] theorem State.unclassifiedFrame_dec (w : FrameWord) (e : Nat) : (s.unclassifiedFrame w e).dec = s.dec := by
  rw [unclassifiedFrame_eq]
@[simp] theorem State.unclassifiedFrame_frameStart (w : FrameWord) (e : Nat) : (s.unclassifiedFrame w e).frameStart = s.frameStart := by
  rw [unclassifiedFrame_eq]
@[simp] theorem State.unclassifiedFrame_asicFlag (w : FrameWord) (e : Nat) : (s.unclassifiedFrame w e).asicFlag = s.asicFlag := by
  rw [unclassifiedFrame_eq]
@[simp] theorem State.unclassifiedFrame_ctx (w : FrameWord) (e : Nat) : (s.unclassifiedFrame w e).ctx = s.ctx := by
  rw [unclassifiedFrame_eq]
@[simp] theorem State.unclassifiedFrame_opts (w : FrameWord) (e : Nat) : (s.unclassifiedFrame w e).opts = s.opts := by
  rw [unclassifiedFrame_eq]
@[simp] theorem State.unclassifiedFrame_par (w : FrameWord) (e : Nat) : (s.unclassifiedFrame w e).par = s.par := by
  rw [unclassifiedFrame_eq]
@[simp] theorem State.unclassifiedFrame_input (w : FrameWord) (e : Nat) : (s.unclassifiedFrame w e).input = s.input := by
  rw [unclassifiedFrame_eq]

/-! ### `complete`: what no completed frame writes -/

@[simp] theorem State.complete_cls (e : Nat) : (s.complete e).cls = s.cls := by
  rcases complete_cases s e with ⟨_, _, _, h⟩ | ⟨_, _, _, h⟩ | ⟨_, _, h⟩ | ⟨_, h⟩ | ⟨_, h⟩ | ⟨_, h⟩ <;> simp [h]
@[simp] theorem State.complete_curBit (e : Nat) : (s.complete e).curBit = s.curBit := by
  rcases complete_cases s e with ⟨_, _, _, h⟩ | ⟨_, _, _, h⟩ | ⟨_, _, h⟩ | ⟨_, h⟩ | ⟨_, h⟩ | ⟨_, h⟩ <;> simp [h]
@[simp] theorem State.complete_pulseStart (e : Nat) : (s.complete e).pulseStart = s.pulseStart := by
  rcases complete_cases s e with ⟨_, _, _, h⟩ | ⟨_, _, _, h⟩ | ⟨_, _, h⟩ | ⟨_, h⟩ | ⟨_, h⟩ | ⟨_, h⟩ <;> simp [h]
@[simp] theorem State.complete_frameStart (e : Nat) : (s.complete e).frameStart = s.frameStart := by
  rcases complete_cases s e with ⟨_, _, _, h⟩ | ⟨_, _, _, h⟩ | ⟨_, _, h⟩ | ⟨_, h⟩ | ⟨_, h⟩ | ⟨_, h⟩ <;> simp [h]
@[simp] theorem State.complete_opts (e : Nat) : (s.complete e).opts = s.opts := by
  rcases complete_cases s e with ⟨_, _, _, h⟩ | ⟨_, _, _, h⟩ | ⟨_, _, h⟩ | ⟨_, h⟩ | ⟨_, h⟩ | ⟨_, h⟩ <;> simp [h]
@[simp] theorem State.complete_par (e : Nat) : (s.complete e).par = s.par := by
  rcases complete_cases s e with ⟨_, _, _, h⟩ | ⟨_, _, _, h⟩ | ⟨_, _, h⟩ | ⟨_, h⟩ | ⟨_, h⟩ | ⟨_, h⟩ <;> simp [h]
@[simp] theorem State.complete_input (e : Nat) : (s.complete e).input = s.input := by
  rcases complete_cases s e with ⟨_, _, _, h⟩ | ⟨_, _, _, h⟩ | ⟨_, _, h⟩ | ⟨_, h⟩ | ⟨_, h⟩ | ⟨_, h⟩ <;> simp [h]

/-! ### `clockRise`: what no clock rise writes -/

@[simp] theorem State.clockRise_cls (d : Bool) (p : Nat) : (s.clockRise d p).cls = s.cls := by
  rcases clockRise_cases s d p with ⟨_, h⟩ | ⟨_, h⟩ <;> simp [h]
@[simp] theorem State.clockRise_asicFlag (d : Bool) (p : Nat) : (s.clockRise d p).asicFlag = s.asicFlag := by
  rcases clockRise_cases s d p with ⟨_, h⟩ | ⟨_, h⟩ <;> simp [h]
@[simp] theorem State.clockRise_ctx (d : Bool) (p : Nat) : (s.clockRise d p).ctx = s.ctx := by
  rcases clockRise_cases s d p with ⟨_, h⟩ | ⟨_, h⟩ <;> simp [h]
@[simp] theorem State.clockRise_opts (d : Bool) (p : Nat) : (s.clockRise d p).opts = s.opts := by
  rcases clockRise_cases s d p with ⟨_, h⟩ | ⟨_, h⟩ <;> simp [h]
@[simp] theorem State.clockRise_par (d : Bool) (p : Nat) : (s.clockRise d p).par = s.par := by
  rcases clockRise_cases s d p with ⟨_, h⟩ | ⟨_, h⟩ <;> simp [h]
@[simp] theorem State.clockRise_input (d : Bool) (p : Nat) : (s.clockRise d p).input = s.input := by
  rcases clockRise_cases s d p with ⟨_, h⟩ | ⟨_, h⟩ <;> simp [h]
@[simp] theorem State.clockRise_output (d : Bool) (p : Nat) : (s.clockRise d p).output = s.output := by
  rcases clockRise_cases s d p with ⟨_, h⟩ | ⟨_, h⟩ <;> simp [h]
@[simp] theorem State.clockRise_curBit (d : Bool) (p : Nat) : (s.clockRise d p).curBit = d := by
  rcases clockRise_cases s d p with ⟨_, h⟩ | ⟨_, h⟩ <;> simp [h]
@[simp] theorem State.clockRise_pulseStart (d : Bool) (p : Nat) : (s.clockRise d p).pulseStart = p := by
  rcases clockRise_cases s d p with ⟨_, h⟩ | ⟨_, h⟩ <;> simp [h]

/-! ### `clockFall`: what no clock fall writes -/

@[simp] theorem State.clockFall_cls (dv dir : Bool) (p : Nat) : (s.clockFall dv dir p).cls = s.cls := by
  rcases clockFall_cases s dv dir p with ⟨_, h⟩ | ⟨_, _, h⟩ | ⟨_, _, h⟩ <;> simp [h]
@[simp] theorem State.clockFall_curBit (dv dir : Bool) (p : Nat) : (s.clockFall dv dir p).curBit = s.curBit := by
  rcases clockFall_cases s dv dir p with ⟨_, h⟩ | ⟨_, _, h⟩ | ⟨_, _, h⟩ <;> simp [h]
@[simp] theorem State.clockFall_pulseStart (dv dir : Bool) (p : Nat) : (s.clockFall dv dir p).pulseStart = s.pulseStart := by
  rcases clockFall_cases s dv dir p with ⟨_, h⟩ | ⟨_, _, h⟩ | ⟨_, _, h⟩ <;> simp [h]
@[simp] theorem State.clockFall_frameStart (dv dir : Bool) (p : Nat) : (s.clockFall dv dir p).frameStart = s.frameStart := by
  rcases clockFall_cases s dv dir p with ⟨_, h⟩ | ⟨_, _, h⟩ | ⟨_, _, h⟩ <;> simp [h]
@[simp] theorem State.clockFall_opts (dv dir : Bool) (p : Nat) : (s.clockFall dv dir p).opts = s.opts := by
  rcases clockFall_cases s dv dir p with ⟨_, h⟩ | ⟨_, _, h⟩ | ⟨_, _, h⟩ <;> simp [h]
@[simp] theorem State.clockFall_par (dv dir : Bool) (p : Nat) : (s.clockFall dv dir p).par = s.par := by
  rcases clockFall_cases s dv dir p with ⟨_, h⟩ | ⟨_, _, h⟩ | ⟨_, _, h⟩ <;> simp [h]
@[simp] theorem State.clockFall_input (dv dir : Bool) (p : Nat) : (s.clockFall dv dir p).input = s.input := by
  rcases clockFall_cases s dv dir p with ⟨_, h⟩ | ⟨_, _, h⟩ | ⟨_, _, h⟩ <;> simp [h]

end Sys2Proof.Machine
end

