-- ==== Sys2Proof/Laws/PerInstr.lean ====
section
/-!
SUPPORT. The family of per-instruction lemmas: each instruction's encoding has the fixed bits of its row of
spec/opcode_table.json (R91, R102). A statement for all instructions follows by cases.
-/

namespace Sys2Proof.Laws.TableRow

/-- The fixed bits of a row: the format's word `w` agrees with `row` wherever `mask` is 1. -/
abbrev matchesRow {n : Nat} (mask row w : BitVec n) : Prop := w &&& mask = row

/-- The mask and match of the frame row an instruction belongs to, as the table writes them. -/
def frameRow : Instr → Option (FrameWord × FrameWord)
  | .sreset _ _ => some (0x603, 0x001)
  | .ssel _ _ => some (0x603, 0x201)
  | .sctl _ _ _ _ _ => some (0x403, 0x401)
  | .data _ _ => some (0x003, 0x003)
  | .null _ => some (0xFFF, 0x000)
  | .unclassified _ _ => some (0x001, 0x000)
  | _ => none

/-- The mask and match of the event row an instruction belongs to, as the table writes them. -/
def eventRow : Instr → Option (BitVec 4 × BitVec 4)
  | .evSkipEnd _ _ _ _ _ => some (0b1010, 0b1000)
  | .evSkipHoldNoClock _ _ _ _ _ _ => some (0b1000, 0b0000)
  | .evSkipHoldClockHigh _ _ _ _ _ => some (0b1010, 0b1010)
  | .evInterference _ _ _ => some (0b1111, 0b1111)
  | .evNoise _ _ _ _ => some (0b0111, 0b0110)
  | .evClkRise _ _ _ _ _ => some (0b1110, 0b1010)
  | .evClkFall _ _ _ _ _ => some (0b1010, 0b1000)
  | .evDataOnlyClockLow _ _ _ _ => some (0b1110, 0b0100)
  | .evDataOnlyClockHigh _ _ _ => some (0b1111, 0b0111)
  | .evNone _ _ _ _ _ => some (0b1100, 0b0000)
  | _ => none

/-- The encoding of a well-formed instruction, under the default of NOISE_MASKS_CLK_RISE, has the fixed bits of its row. -/
def Statement (i : Instr) : Prop :=
  i.wellFormed Config.noiseMasksClkRiseDefault = true →
    match encode i with
    | .frame w _ => ∃ mask row, frameRow i = some (mask, row) ∧ matchesRow mask row w
    | .event ev => ∃ mask row, eventRow i = some (mask, row) ∧ matchesRow mask row ev.code

/-- The Control and Data rows' fixed bits in the encoder's words. -/
theorem frame_words :
    (∀ a : Addr, matchesRow (0x603 : FrameWord) 0x001 (0x001 ||| placeField a 3)) ∧
      (∀ a : Addr, matchesRow (0x603 : FrameWord) 0x201 (0x201 ||| placeField a 3)) ∧
      (∀ v : ByteField, matchesRow (0x003 : FrameWord) 0x003 (0x003 ||| placeField v 3)) ∧
      ∀ (sm bw rw : Bool) (reg : RegNum),
        matchesRow (0x403 : FrameWord) 0x401
          (0x401 ||| placeField reg 3 ||| placeField (BitVec.ofBool sm) 7 ||| placeField (BitVec.ofBool bw) 8
            ||| placeField (BitVec.ofBool rw) 9) := by
  decide

theorem sreset (addr : Addr) (endPos : Nat) : Statement (.sreset addr endPos) :=
  fun _ => ⟨_, _, rfl, frame_words.1 addr⟩

theorem ssel (addr : Addr) (endPos : Nat) : Statement (.ssel addr endPos) :=
  fun _ => ⟨_, _, rfl, frame_words.2.1 addr⟩

theorem sctl (sm bw rw : Bool) (reg : RegNum) (endPos : Nat) : Statement (.sctl sm bw rw reg endPos) :=
  fun _ => ⟨_, _, rfl, frame_words.2.2.2 sm bw rw reg⟩

theorem data (value : ByteField) (endPos : Nat) : Statement (.data value endPos) :=
  fun _ => ⟨_, _, rfl, frame_words.2.2.1 value⟩

theorem null (endPos : Nat) : Statement (.null endPos) := fun _ => ⟨_, _, rfl, rfl⟩

/-- A word whose first bit is 0 has the UNCLASSIFIED row's fixed bit. -/
theorem bitZero_clear (w : FrameWord) (h : w.getLsbD 0 = false) : matchesRow (0x001 : FrameWord) 0x000 w := by
  apply BitVec.eq_of_getLsbD_eq
  intro i hi
  have h1 : (0x001 : FrameWord).getLsbD i = decide (i = 0) := by
    interval_cases i <;> rfl
  have h2 : (0x000 : FrameWord).getLsbD i = false := BitVec.getLsbD_zero
  rw [BitVec.getLsbD_and, h1, h2]
  by_cases h0 : i = 0
  · rw [h0, h]; rfl
  · rw [decide_eq_false h0, Bool.and_false]

theorem unclassified (raw : FrameWord) (endPos : Nat) : Statement (.unclassified raw endPos) := by
  intro h
  have h' : unclassifiedWord raw = true := h
  simp only [unclassifiedWord, Bool.and_eq_true, Bool.not_eq_true'] at h'
  exact ⟨_, _, rfl, bitZero_clear raw h'.1⟩

/-- The event code's bits are `tc`, `td`, `clk`, `data`, and nothing else of the event (R91). -/
theorem code_matches {mask row : BitVec 4} {tc td clk level dv dir : Bool} {pos : Nat}
    (h : matchesRow mask row (BitVec.ofBool tc ++ BitVec.ofBool td ++ BitVec.ofBool clk ++ BitVec.ofBool level)) :
    matchesRow mask row (Event.code ⟨tc, td, clk, level, dv, dir, pos⟩) := h

theorem evSkipEnd (td level dv dir : Bool) (pos : Nat) : Statement (.evSkipEnd td level dv dir pos) :=
  fun _ => ⟨_, _, rfl, by cases td <;> cases level <;> exact code_matches (by decide)⟩

theorem evSkipHoldNoClock (td clk level dv dir : Bool) (pos : Nat) :
    Statement (.evSkipHoldNoClock td clk level dv dir pos) :=
  fun _ => ⟨_, _, rfl, by cases td <;> cases clk <;> cases level <;> exact code_matches (by decide)⟩

theorem evSkipHoldClockHigh (td level dv dir : Bool) (pos : Nat) : Statement (.evSkipHoldClockHigh td level dv dir pos) :=
  fun _ => ⟨_, _, rfl, by cases td <;> cases level <;> exact code_matches (by decide)⟩

theorem evInterference (dv dir : Bool) (pos : Nat) : Statement (.evInterference dv dir pos) :=
  fun _ => ⟨_, _, rfl, code_matches (by decide)⟩

theorem evNoise (tc dv dir : Bool) (pos : Nat) : Statement (.evNoise tc dv dir pos) :=
  fun _ => ⟨_, _, rfl, by cases tc <;> exact code_matches (by decide)⟩

theorem evClkRise (td level dv dir : Bool) (pos : Nat) : Statement (.evClkRise td level dv dir pos) := by
  intro h
  refine ⟨_, _, rfl, ?_⟩
  cases td with
  | false => cases level <;> exact code_matches (by decide)
  | true => exact absurd h Bool.false_ne_true

theorem evClkFall (td level dv dir : Bool) (pos : Nat) : Statement (.evClkFall td level dv dir pos) :=
  fun _ => ⟨_, _, rfl, by cases td <;> cases level <;> exact code_matches (by decide)⟩

theorem evDataOnlyClockLow (level dv dir : Bool) (pos : Nat) : Statement (.evDataOnlyClockLow level dv dir pos) :=
  fun _ => ⟨_, _, rfl, by cases level <;> exact code_matches (by decide)⟩

theorem evDataOnlyClockHigh (dv dir : Bool) (pos : Nat) : Statement (.evDataOnlyClockHigh dv dir pos) :=
  fun _ => ⟨_, _, rfl, code_matches (by decide)⟩

theorem evNone (clk level dv dir : Bool) (pos : Nat) : Statement (.evNone clk level dv dir pos) :=
  fun _ => ⟨_, _, rfl, by cases clk <;> cases level <;> exact code_matches (by decide)⟩

end Sys2Proof.Laws.TableRow
end

