-- ==== Sys2Proof/Laws/Run.lean ====
section
/-!
SUPPORT. Runs of several steps, and what each notation event (R105) does in the observing state, so that a proof about a stream
takes its events one by one.
-/

namespace Sys2Proof.Machine

/-- Nothing to run leaves the state. -/
theorem run_zero (s : State) : Host.Core.run Sys2Proof.core 0 s = .next s := rfl

/-- A run's first step taken, on any machine. -/
theorem coreRun_succ (M : Host.Core) {s t : M.State} (n : Nat) (h : M.step s = .next t) : M.run (n + 1) s = M.run n t := by
  simp only [Host.Core.run, h]

/-- A run in two parts, on any machine. -/
theorem coreRun_add (M : Host.Core) {s t : M.State} (m n : Nat) (h : M.run m s = .next t) : M.run (m + n) s = M.run n t := by
  induction m generalizing s with
  | zero =>
    cases h
    rw [Nat.zero_add]
  | succ m ih =>
    simp only [Host.Core.run] at h
    cases hs : M.step s with
    | next u =>
      rw [hs] at h
      rw [Nat.add_right_comm, coreRun_succ M (m + n) hs]
      exact ih h
    | fault r => rw [hs] at h; cases h
    | refused r => rw [hs] at h; cases h

/-- A run's first step taken. -/
theorem run_succ_of_step {s t : State} (n : Nat) (h : step s = .next t) :
    Host.Core.run Sys2Proof.core (n + 1) s = Host.Core.run Sys2Proof.core n t := coreRun_succ Sys2Proof.core n h

/-- A run in two parts. -/
theorem run_add {s t : State} (m n : Nat) (h : Host.Core.run Sys2Proof.core m s = .next t) :
    Host.Core.run Sys2Proof.core (m + n) s = Host.Core.run Sys2Proof.core n t := coreRun_add Sys2Proof.core m n h

/-- `RISE d` in the observing state is ClockRise (R134). -/
theorem step_rise {s : State} {t : Nat} {d : Bool} {dir : Option Bool} {rest : List Event} (hc : s.cls = .observe)
    (hi : s.input = riseEvent t d dir :: rest) : step s = .next (s.consume.clockRise d t) := by
  rw [step_cons s _ _ hi]
  cases d <;> simp [State.operationOf, hc, decodeEvent, decodeObserving, riseEvent, withDir, exec, execEvClkRise]

/-- `FALL d` in the observing state is ClockFall (R135). -/
theorem step_fall {s : State} {t : Nat} {d : Bool} {dir : Option Bool} {rest : List Event} (hc : s.cls = .observe)
    (hi : s.input = fallEvent t d dir :: rest) :
    step s = .next (s.consume.clockFall dir.isSome (dir.getD false) t) := by
  rw [step_cons s _ _ hi]
  simp [State.operationOf, hc, decodeEvent, decodeObserving, fallEvent, withDir, exec, execEvClkFall]

/-- `DSET 0 d` in the observing state changes nothing (R136). -/
theorem step_dset {s : State} {t : Nat} {d : Bool} {dir : Option Bool} {rest : List Event} (hc : s.cls = .observe)
    (hi : s.input = dsetEvent t false d dir :: rest) : step s = .next s.consume := by
  rw [step_cons s _ _ hi]
  simp [State.operationOf, hc, decodeEvent, decodeObserving, dsetEvent, withDir, exec, execEvDataOnlyClockLow]

end Sys2Proof.Machine
end

