-- ==== Sys2Proof/Tests/Slice0.lean ====
section
/-!
SUPPORT. The model's own tests: ill-formed terms refused, each constructor decoded from a word written out from the spec's
encoding, one-step runs with results from the spec's vectors (V<n> of spec/95_test_vectors.md), and, for every obligation with
hypotheses, a concrete instance that meets them.
-/

open Sys2Proof Sys2Proof.Machine

namespace Sys2Proof.Tests

/-! ### Well-formedness -/

theorem test_wf_unclassified_first_bit_one : Instr.wellFormed true (.unclassified 0x001 0) = false := by decide

theorem test_wf_unclassified_zero : Instr.wellFormed true (.unclassified 0x000 0) = false := by decide

theorem test_wf_noise_unmasked_with_clock_trigger : Instr.wellFormed false (.evNoise true false false 0) = false := by decide

theorem test_wf_rise_with_masked_data_trigger : Instr.wellFormed true (.evClkRise true false false false 0) = false := by decide

theorem test_wf_rise_with_data_trigger_high : Instr.wellFormed false (.evClkRise true true false false 0) = false := by decide

theorem test_wf_boundary_accepted :
    Instr.wellFormed true (.unclassified 0x002 0) = true ∧ Instr.wellFormed true (.evNoise true false false 0) = true ∧
      Instr.wellFormed false (.evClkRise true false false false 0) = true := by decide

/-! ### Decoding: every constructor from a word of the spec's encoding (R91, R102; words of V10, V11, V16, V20) -/

/-- V10 `SRESET 5`, wire 100101000000. -/
theorem test_decode_sreset : decodeTableWord 16 0x029 = some (.sreset 5 2) := by decide

/-- V10 `SSEL 32`, wire 100000001100. -/
theorem test_decode_ssel : decodeTableWord 16 0x301 = some (.ssel 32 2) := by decide

/-- V11 `SCTL 1,0,0,9`, wire 100100110010; `SCTL 0,1,0,15`; `SCTL 0,0,1,3`. -/
theorem test_decode_sctl :
    decodeTableWord 16 0x4C9 = some (.sctl true false false 9 2) ∧
      decodeTableWord 16 0x579 = some (.sctl false true false 15 2) ∧
      decodeTableWord 16 0x619 = some (.sctl false false true 3 2) := by decide

/-- V20 `DATA 0xA5`, wire 110101001010. -/
theorem test_decode_data : decodeTableWord 16 0x52B = some (.data 0xA5 2) := by decide

theorem test_decode_null : decodeTableWord 16 0x000 = some (.null 2) := by decide

/-- V16: bit 2 alone, and bit 11 alone, make a word Unclassified and not Null. -/
theorem test_decode_unclassified :
    decodeTableWord 16 0x004 = some (.unclassified 0x004 2) ∧ decodeTableWord 16 0x800 = some (.unclassified 0x800 2) := by decide

/-- V17: bits 2 and 11 of a Control or Data word are ignored. -/
theorem test_decode_ignored_bits :
    decodeTableWord 16 0xA2D = some (.ssel 5 2) ∧ decodeTableWord 16 0xC17 = some (.data 0x82 2) := by decide

/-- R91, codes 1000 and 1101 while an interference is skipped. -/
theorem test_decode_skip_end :
    decodeEvent true .skipToFall (.ofCode 0b1000 true false 7) = .evSkipEnd false false true false 7 ∧
      decodeEvent true .skipToFall (.ofCode 0b1101 false true 7) = .evSkipEnd true true false true 7 := by decide

theorem test_decode_skip_hold_no_clock :
    decodeEvent true .skipToFall (.ofCode 0b0110 false false 102) = .evSkipHoldNoClock true true false false false 102 := by
  decide

theorem test_decode_skip_hold_clock_high :
    decodeEvent true .skipToFall (.ofCode 0b1111 false false 102) = .evSkipHoldClockHigh true true false false 102 := by decide

theorem test_decode_interference : decodeTableWord 8 0b1111 = some (.evInterference false false 0) := by decide

theorem test_decode_noise :
    decodeTableWord 8 0b0110 = some (.evNoise false false false 0) ∧
      decodeTableWord 8 0b1110 = some (.evNoise true false false 0) := by decide

/-- R133: with the filter not masking the rise, 1110 is EV.CLK_RISE with data 0. -/
theorem test_decode_clk_rise :
    decodeTableWord 8 0b1010 = some (.evClkRise false false false false 0) ∧
      decodeEvent false .observe (.ofCode 0b1110 false false 18) = .evClkRise true false false false 18 := by decide

theorem test_decode_clk_fall :
    decodeTableWord 8 0b1001 = some (.evClkFall false true false false 0) ∧
      decodeTableWord 8 0b1100 = some (.evClkFall true false false false 0) := by decide

theorem test_decode_data_only :
    decodeTableWord 8 0b0101 = some (.evDataOnlyClockLow true false false 0) ∧
      decodeTableWord 8 0b0111 = some (.evDataOnlyClockHigh false false 0) := by decide

theorem test_decode_none : decodeTableWord 8 0b0010 = some (.evNone true false false false 0) := by decide

/-- The byte image: what is no event code and no frame word is refused by name (log entry 9). -/
theorem test_decode_refuses :
    readImage false false 0 [0x10] = .error .bitsAboveEventCode ∧
      readImage false false 0 [0x01, 0x10] = .error .bitsAboveFrameWord ∧
      readImage false false 0 [] = .error .noSuchLength ∧ readImage false false 0 [0, 0, 0] = .error .noSuchLength := by
  refine ⟨rfl, rfl, rfl, rfl⟩

/-! ### One step each -/

/-- The start state of V0, with one event to take. -/
def v0 (cls : Cls) (ev : Event) : State :=
  { State.reset with
    cls := cls, dec := .inFrame, fb := [⟨true, 80⟩, ⟨true, 88⟩, ⟨false, 96⟩], frameStart := 80, curBit := true, pulseStart := 100
    opts := Options.ofWord 0b0010, input := [ev] }

/-- The first `n` bits of the frame `w @0` received in its canonical expansion, the next one sampled (R106). -/
def received (w : FrameWord) (n : Nat) : State :=
  { State.reset with
    dec := .inFrame, frameStart := 2, fb := (List.range n).map (fun k => ⟨w.getLsbD k, 8 * k + 2⟩)
    curBit := w.getLsbD n, pulseStart := 8 * n + 2 }

/-- The machine in SEARCH with twelve zeros held, as `FRAME NULL @0` leaves it (V9). -/
def searching : State :=
  { State.reset with
    fb := (List.range 12).map (fun k => ⟨false, 8 * k + 2⟩), pulseStart := 90, frameStart := 2 }

/-- The field `f` of the next state of the outcome, if there is one. -/
def after {α : Type} (f : State → α) (o : Host.Outcome State Fault Refusal) : Option α :=
  match o with
  | .next t => some (f t)
  | .fault _ => none
  | .refused _ => none

/-- The records an outcome's state holds, and the buffer's length. -/
def shown (s : State) : List Record × Nat := (s.output, s.fb.length)

theorem test_skip_end : after State.cls (step (v0 .skipToFall (fallEvent 110 false none))) = some .observe := by decide

theorem test_skip_end_appends_nothing :
    after shown (step (v0 .skipToFall (fallEvent 110 false none))) = some ([], 3) := by decide

theorem test_skip_hold_no_clock :
    after State.cls (step (v0 .skipToFall (dsetEvent 110 true false none))) = some .skipToFall := by decide

theorem test_skip_hold_clock_high :
    after State.cls (step (v0 .skipToFall (bothEvent 110 true true none))) = some .skipToFall := by decide

theorem test_interference :
    after (fun t => (t.cls, t.pulseStart)) (step (v0 .observe (bothEvent 110 true true none))) = some (.skipToFall, 100) := by
  decide

theorem test_noise_keeps_sample :
    after (fun t => (t.curBit, t.pulseStart)) (step (v0 .observe (bothEvent 110 true false none))) = some (true, 100) := by decide

theorem test_clk_rise_samples :
    after (fun t => (t.curBit, t.pulseStart, t.frameStart)) (step (v0 .observe (riseEvent 110 false none))) =
      some (false, 110, 80) := by decide

/-- V9: a 1 at a clock rise in SEARCH marks the start of a frame. -/
theorem test_clk_rise_starts_frame :
    after (fun t => (t.dec, t.fb.length, t.frameStart)) (step { searching with input := [riseEvent 122 true none] }) =
      some (.inFrame, 0, 122) := by decide

theorem test_clk_fall_appends :
    after (fun t => (t.fb.getLast?, t.output)) (step (v0 .observe (fallEvent 110 true none))) =
      some (some ⟨true, 100⟩, [⟨100, 110, .bit true⟩]) := by decide

/-- V8: the last event of `FRAME SSEL 5 @0` completes the frame. -/
theorem test_clk_fall_completes :
    after shown (step { received 0x229 11 with input := [fallEvent 94 false none] }) =
      some ([⟨2, 94, .ctrlFrame⟩, ⟨2, 94, .selRst true⟩, ⟨26, 74, .slaveAddr 5⟩], 0) := by decide

theorem test_data_only_low :
    after shown (step (v0 .observe (dsetEvent 110 false true none))) = some ([], 3) := by decide

theorem test_data_only_high :
    after State.curBit (step (v0 .observe (dsetEvent 110 true true none))) = some true := by decide

theorem test_none : after shown (step (v0 .observe (noneEvent 110 true true none))) = some ([], 3) := by decide

/-- V10 `SRESET 63`. -/
theorem test_sreset :
    after State.output (exec (.sreset 63 94) (received 0x1F9 12)) =
      some [⟨2, 94, .ctrlFrame⟩, ⟨2, 94, .selRst false⟩, ⟨26, 74, .slaveAddr 63⟩] := by decide

/-- V30: a Control frame closes the run after its CTRL_FRAME. -/
theorem test_sreset_closes_run :
    after State.output (exec (.sreset 0 574)
        { received 0x001 12 with ctx := { ControlContext.reset with runOpen := true, runCount := 1, runStart := 386, runEnd := 478 } }) =
      some [⟨2, 574, .ctrlFrame⟩, ⟨386, 478, .runCount 1⟩, ⟨2, 574, .selRst false⟩, ⟨26, 74, .slaveAddr 0⟩] := by decide

/-- V10: `SSEL 0` expects no peripheral data, `SSEL 1` does. -/
theorem test_ssel_expects :
    after (fun t => t.ctx.expectAsic) (exec (.ssel 0 94) (received 0x201 12)) = some false ∧
      after (fun t => t.ctx.expectAsic) (exec (.ssel 1 94) (received 0x209 12)) = some true := by decide

/-- V11 `SCTL 0,1,1,9`. -/
theorem test_sctl_records :
    after State.output (exec (.sctl false true true 9 94) (received 0x749 12)) =
      some [⟨2, 94, .ctrlFrame⟩, ⟨2, 94, .sctl⟩, ⟨26, 58, .regNum 9⟩, ⟨58, 66, .modeSm false⟩, ⟨66, 74, .modeBw true⟩,
        ⟨74, 82, .modeRw true⟩, ⟨26, 90, .modeSummary false true true 9⟩] := by decide

/-- V11: with RW_READ = 0 the expectation is inverted. -/
theorem test_sctl_expects :
    after (fun t => (t.ctx.expectAsic, t.ctx.curReg, t.ctx.curRegValid)) (exec (.sctl false true true 9 94) (received 0x749 12)) =
        some (true, 9, true) ∧
      after (fun t => t.ctx.expectAsic)
        (exec (.sctl false true true 9 94) { received 0x749 12 with par := { Params.default with rwRead := false } }) = some false := by decide

/-- V20 `DATA 0x82`. -/
theorem test_data :
    after (fun t => (t.output, t.ctx.runOpen, t.ctx.runCount, t.ctx.runStart, t.ctx.runEnd))
        (exec (.data 0x82 94) (received 0x413 12)) =
      some ([⟨2, 94, .dataFrame⟩, ⟨26, 90, .dataHost 130⟩], true, 1, 2, 94) := by decide

/-- V22: the marked direction beats the guess, and the flag is cleared. -/
theorem test_data_channel :
    after (fun t => (t.output.getLast?, t.asicFlag))
        (exec (.data 7 94) { received 0x03B 12 with
          asicFlag := true, opts := Options.ofWord 0b1000, ctx := { ControlContext.reset with expectAsic := true } }) =
      some (some ⟨26, 90, .dataAsic 7⟩, false) := by decide

/-- V15. -/
theorem test_null :
    after (fun t => (t.output, t.dec, t.fb.length)) (exec (.null 94) (received 0x000 12)) =
      some ([⟨94, 94, .nullFrame⟩], .search, 12) := by decide

/-- V16 with `show_debug`. -/
theorem test_unclassified :
    after shown (exec (.unclassified 0x00A 94) { received 0x00A 12 with opts := Options.ofWord 0b0100 }) =
      some ([⟨2, 94, .rawFrame 0x00A⟩], 0) := by decide

theorem test_unclassified_silent :
    after (fun t => (t.output, t.dec)) (exec (.unclassified 0x00A 94) (received 0x00A 12)) = some ([], .inFrame) := by decide

/-! ### A table word runs as the first instruction after reset -/

theorem test_fetch_frame :
    after State.output (step (State.reset.withFetchWord 16 0x229)) =
      some [⟨0, 2, .ctrlFrame⟩, ⟨0, 2, .selRst true⟩, ⟨0, 0, .slaveAddr 5⟩] := by decide

theorem test_fetch_event : after State.dec (step (State.reset.withFetchWord 8 0b1011)) = some .inFrame := by decide

/-! ### Instances that meet the hypotheses of the obligations -/

/-- An event the framer takes: the clock fall that completes `DATA 0x82 @0`. -/
def completing : State := { received 0x413 11 with input := [fallEvent 94 false none] }

theorem witness_StepRunsDecodedEvent :
    completing.input = [fallEvent 94 false none] ∧
      decodeEvent completing.par.noiseMasksClkRise completing.cls (fallEvent 94 false none) =
        .evClkFall false false false false 94 := by decide

theorem witness_StepFollowsDispatchOrder :
    (v0 .skipToFall (fallEvent 110 false none)).input = [fallEvent 110 false none] ∧
      (v0 .skipToFall (fallEvent 110 false none)).par.noiseMasksClkRise = true ∧
      (v0 .observe (fallEvent 110 false none)).par.noiseMasksClkRise = true := by decide

theorem witness_EmptyInputStepChangesNothing : (received 0x413 5).input = [] := by decide

theorem witness_StepConsumesOneEventAppendsAtMostOneBit :
    ∃ t, completing.input = [fallEvent 94 false none] ∧ step completing = .next t := ⟨_, rfl, rfl⟩

theorem witness_ClassificationByFirstTwoBitsAndZero :
    ((0x001 : FrameWord).getLsbD 0 = true ∧ (0x001 : FrameWord).getLsbD 1 = false) ∧
      ((0x003 : FrameWord).getLsbD 0 = true ∧ (0x003 : FrameWord).getLsbD 1 = true) ∧
      ((0x800 : FrameWord).getLsbD 0 = false ∧ (0x800 : FrameWord) ≠ 0) := by decide

theorem witness_FieldsAreSlicesOfFrameWord :
    ((0xFFF : FrameWord).getLsbD 0 = true ∧ (0xFFF : FrameWord).getLsbD 1 = true) ∧
      ((0x001 : FrameWord).getLsbD 0 = true ∧ (0x001 : FrameWord).getLsbD 1 = false ∧ (0x001 : FrameWord).getLsbD 10 = false ∧
        (0x001 : FrameWord).getLsbD 9 = false) ∧
      ((0x3F9 : FrameWord).getLsbD 1 = false ∧ (0x3F9 : FrameWord).getLsbD 10 = false ∧ (0x3F9 : FrameWord).getLsbD 9 = true) ∧
      ((0x7F9 : FrameWord).getLsbD 1 = false ∧ (0x7F9 : FrameWord).getLsbD 10 = true) := by decide

theorem witness_FieldFoldIsLeastSignificantFirst :
    (received 0x413 12).fb.length = 12 ∧ 0 + 12 ≤ 12 ∧ 12 + 0 ≤ 12 := by decide

theorem witness_FrameBitsTwoAndElevenIgnored :
    (0x229 : FrameWord).getLsbD 0 = true ∧
      ∀ k, k < 12 → k ≠ 2 → k ≠ 11 → (0x229 : FrameWord).getLsbD k = (0xA2D : FrameWord).getLsbD k := by decide

theorem witness_DecodeAfterEncodeIsIdentity :
    ((Instr.sctl true true true 15 94).wellFormed false = true ∧ (Instr.sctl true true true 15 94).inCls .skipToFall = true) ∧
      ((Instr.evSkipEnd true true true true 5).wellFormed true = true ∧
        (Instr.evSkipEnd true true true true 5).inCls .skipToFall = true) ∧
      ((Instr.evClkRise true false true true 5).wellFormed false = true ∧
        (Instr.evClkRise true false true true 5).inCls .observe = true) := by decide

theorem witness_PlacedTableWordRunsNext :
    (decodeTableWord 8 0xF = some (.evInterference false false 0) ∧ 8 ≤ 8) ∧
      (decodeTableWord 12 0xFFF = some (.data 0xFF 2) ∧ 8 < 12) := by decide

theorem witness_SkipChangesOnlyClassifierState :
    (v0 .skipToFall (fallEvent 110 false none)).input = [fallEvent 110 false none] ∧
      (v0 .skipToFall (fallEvent 110 false none)).cls = .skipToFall := by decide

theorem witness_ClassifierStateWrittenOnlyBySkipEvents :
    (∃ t, exec (.evInterference false false 0) State.reset = .next t ∧ t.cls ≠ State.reset.cls) ∧
      ∃ t, exec (.evSkipEnd false false false false 0) State.reset.enterSkip = .next t ∧ t.cls ≠ State.reset.enterSkip.cls :=
  ⟨⟨_, rfl, by decide⟩, ⟨_, rfl, by decide⟩⟩

/-- Widths -1, 1 and 2, and eleven bits with the next not completing. -/
theorem witness_NarrowPulseIgnored :
    ((89 : Nat) : Int) - ((received 0x413 11).pulseStart : Int) < 2 ∧
      ((91 : Nat) : Int) - ((received 0x413 11).pulseStart : Int) < 2 ∧
      2 ≤ ((84 : Nat) : Int) - ((received 0x413 10).pulseStart : Int) ∧ (received 0x413 10).fb.length < 11 := by
  decide

/-- A width of 2 with ten bits held, with eleven, and with a full buffer. -/
theorem witness_AcceptedClockFallAppendsAndCompletes :
    ((received 0x413 10).pulseStart + 2 ≤ 84 ∧ (received 0x413 10).fb.length + 1 < 12) ∧
      ((received 0x413 11).pulseStart + 2 ≤ 92 ∧ 12 ≤ (received 0x413 11).fb.length + 1) ∧
      (searching.pulseStart + 2 ≤ 92 ∧ 12 ≤ searching.fb.length + 1) := by decide

theorem witness_AsicFlagSetOnlyAtFourthBit :
    ∃ t, exec (.evClkFall false false true true 30) (received 0x413 3) = .next t ∧ (received 0x413 3).asicFlag = false ∧
      t.asicFlag = true := ⟨_, rfl, by decide⟩

theorem witness_AsicFlagClearedOnlyByDataFrame :
    (∃ t, exec (.data 0x82 94) { received 0x413 12 with asicFlag := true } = .next t ∧ t.asicFlag = false) ∧
      ∃ t, exec (.evClkFall false false false false 94) { received 0x413 11 with asicFlag := true } = .next t ∧
        t.asicFlag = false :=
  ⟨⟨_, rfl, by decide⟩, ⟨_, rfl, by decide⟩⟩

theorem witness_SearchWindowSlidesAndRepeatsNull :
    searching.Inv ∧ searching.dec = .search ∧ searching.fb.length = 12 ∧ searching.pulseStart + 2 ≤ 92 := by
  decide

theorem witness_DecoderStateWrittenOnlyByStartAndNull :
    (∃ t, exec (.evClkRise false true false false 122) searching = .next t ∧ t.dec ≠ searching.dec) ∧
      (∃ t, exec (.evClkRise false false false false 2) State.reset = .next t ∧ t.dec ≠ State.reset.dec) ∧
      ∃ t, exec (.evClkFall false false false false 94) (received 0x000 11) = .next t ∧ t.dec ≠ (received 0x000 11).dec :=
  ⟨⟨_, rfl, by decide⟩, ⟨_, rfl, by decide⟩, ⟨_, rfl, by decide⟩⟩

theorem witness_SresetFrameEffect :
    (received 0x029 12).fb[3]? = some ⟨true, 26⟩ ∧ (received 0x029 12).fb[9]? = some ⟨false, 74⟩ := by decide

theorem witness_SselFrameEffect :
    (received 0x229 12).fb[3]? = some ⟨true, 26⟩ ∧ (received 0x229 12).fb[9]? = some ⟨true, 74⟩ := by decide

theorem witness_SctlFrameEffect :
    (received 0x749 12).fb[3]? = some ⟨true, 26⟩ ∧ (received 0x749 12).fb[7]? = some ⟨false, 58⟩ ∧
      (received 0x749 12).fb[8]? = some ⟨true, 66⟩ ∧ (received 0x749 12).fb[9]? = some ⟨true, 74⟩ ∧
      (received 0x749 12).fb[10]? = some ⟨true, 82⟩ ∧ (received 0x749 12).fb[11]? = some ⟨false, 90⟩ := by decide

theorem witness_DataFrameEffect :
    (received 0x413 12).fb[3]? = some ⟨false, 26⟩ ∧ (received 0x413 12).fb[11]? = some ⟨false, 90⟩ := by decide

theorem witness_DataFrameAdvancesRunAndSaturates :
    (received 0x413 12).ctx.runOpen = false ∧
      ({ received 0x413 12 with ctx := { ControlContext.reset with runOpen := true, runCount := 1 } } : State).ctx.runOpen = true := by
  decide

theorem witness_ExpectAsicWrittenByControlFrames :
    (∃ t, exec (.sreset 63 94) (received 0x1F9 12) = .next t) ∧ (∃ t, exec (.ssel 0 94) (received 0x201 12) = .next t) ∧
      (∃ t, (63 : Addr) ≠ 0 ∧ exec (.ssel 63 94) (received 0x3F9 12) = .next t) ∧
      (∃ t, exec (.sctl false false true 3 94) (received 0x619 12) = .next t ∧ true = (received 0x619 12).par.rwRead) ∧
      (∃ t, exec (.sctl false false false 3 94) (received 0x419 12) = .next t ∧ false ≠ (received 0x419 12).par.rwRead) ∧
      ∃ t, exec (.evClkFall false false false false 94) (received 0x229 11) = .next t ∧
        t.ctx.expectAsic ≠ (received 0x229 11).ctx.expectAsic :=
  ⟨⟨_, rfl⟩, ⟨_, rfl⟩, ⟨_, by decide, rfl⟩, ⟨_, rfl, rfl⟩, ⟨_, rfl, by decide⟩, ⟨_, rfl, by decide⟩⟩

theorem witness_ContextWrittenOnlyByControlAndData :
    ∃ t, completing.input = [fallEvent 94 false none] ∧ step completing = .next t ∧ t.ctx ≠ completing.ctx :=
  ⟨_, rfl, rfl, by decide⟩

/-- The premise `step s = .next t` of RegisterNumberReadByNothing, OptionsAndParametersWrittenByNoStep,
OptionsChangeOnlyRecords and StepAppendsAtMostTenRecords, on a step that emits and writes the Control Context. -/
theorem witness_RegisterNumberReadByNothing : ∃ t, step completing = .next t := ⟨_, rfl⟩

theorem witness_OptionsAndParametersWrittenByNoStep : ∃ t, step completing = .next t := ⟨_, rfl⟩

theorem witness_OptionsChangeOnlyRecords : ∃ t, step { completing with opts := Options.ofWord 0b1111 } = .next t := ⟨_, rfl⟩

theorem witness_StepAppendsAtMostTenRecords : ∃ t, step completing = .next t ∧ t.output ≠ [] := ⟨_, rfl, by decide⟩

/-- A Control frame about to close a run of two Data frames. -/
def closing : State :=
  { received 0x029 11 with
    input := [fallEvent 94 false none]
    ctx := { ControlContext.reset with runOpen := true, runCount := 2, runStart := 2, runEnd := 80 } }

theorem witness_RunCountRecordNeverZero :
    ∃ t, closing.Inv ∧ (∀ r ∈ closing.output, r.body ≠ .runCount 0) ∧ step closing = .next t :=
  ⟨_, by decide, by decide, rfl⟩

theorem witness_AtMostOneAnomalyNoted : searching.Inv ∧ (noted (.evClkFall false false false false 92) searching).length = 1 := by
  decide

theorem witness_ResetGivesEveryElementItsValue :
    (∃ t, (t = closing.resetByHost ∨ t = State.reset) ∧ t ≠ State.reset) ∧ ∃ t, t = closing.resetByHost ∨ t = State.reset :=
  ⟨⟨closing.resetByHost, .inl rfl, by decide⟩, ⟨State.reset, .inr rfl⟩⟩

theorem witness_EdgeDetectorStreamIsWellFormed :
    [(⟨true, true, false, 4⟩ : Sample), ⟨true, true, false, 6⟩, ⟨false, true, true, 9⟩].Pairwise (fun a b => a.pos < b.pos) := by
  decide

theorem witness_StepKeepsBufferAndRunInvariants : ∃ t, closing.Inv ∧ step closing = .next t := ⟨_, by decide, rfl⟩

theorem witness_StepKeepsPositionOrder : ∃ t, closing.Ordered ∧ step closing = .next t := ⟨_, by decide, rfl⟩

/-- `closing` after two Data frames' records. -/
def accounted : State := { closing with output := [⟨2, 40, .dataFrame⟩, ⟨41, 80, .dataFrame⟩] }

theorem witness_StepKeepsDataFrameAccounting : ∃ t, accounted.Accounted ∧ step accounted = .next t := ⟨_, by decide, rfl⟩

/-- The first bit of a frame, its pulse marked and about to end. -/
theorem witness_FrameStartIsFirstPositionForMarkedPulses :
    ∃ t, ({ received 0x413 0 with input := [fallEvent 6 true none] } : State).Inv ∧
      ({ received 0x413 0 with input := [fallEvent 6 true none] } : State).startIsFirstPosition ∧
      ({ received 0x413 0 with input := [fallEvent 6 true none] } : State).pulseIsMarked ∧
      step { received 0x413 0 with input := [fallEvent 6 true none] } = .next t ∧ t.fb.length = 1 :=
  ⟨_, by decide, by decide, by decide, rfl, by decide⟩

theorem witness_FrameStartIsFirstPositionWhenReachable :
    ∃ t, wellFormedStream false false false [dsetEvent 0 false true none, riseEvent 2 true none] = true ∧
      Host.Core.run Sys2Proof.core 2
        { State.reset with input := [dsetEvent 0 false true none, riseEvent 2 true none] } = .next t :=
  ⟨_, by decide, rfl⟩

/-- Log entry 13: with the frame 0x801 completed and a masked clock rise behind it, the next fall stores the stale pulse start
in an empty buffer, and the frame start is not its position. -/
theorem test_masked_rise_breaks_frame_start :
    after (fun t => (t.dec, t.fb, t.frameStart))
        (step { received 0x801 11 with fb := [], input := [fallEvent 102 false none] }) =
      some (.inFrame, [⟨true, 90⟩], 2) := by decide

theorem witness_CanonicalFrameExpansionDecodes :
    (State.reset.cls = .observe ∧ State.reset.fb = []) ∧
      (searching.cls = .observe ∧ searching.dec = .search ∧ (0x229 : FrameWord).getLsbD 0 = true) ∧
      ({ searching with input := frameEvents false 96 0x229 (some 8) } : State).input = frameEvents false 96 0x229 (some 8) ++ [] :=
  ⟨by decide, by decide, by rw [List.append_nil]⟩

theorem witness_TwentyThreeZerosReachSearch :
    (received 0x413 1).Inv ∧ (received 0x413 1).cls = .observe ∧
      ({ received 0x413 1 with input := zeroEvents true 8 23 } : State).input = zeroEvents true 8 23 ++ [] :=
  ⟨by decide, by decide, by rw [List.append_nil]⟩

/-- Positions and a count at the largest values of narrow widths: POS_W = 7, CNT_W = 2. -/
def narrow : State :=
  { closing with
    par := { Params.default with posW := 7, cntW := 2 }, input := [fallEvent 127 false none]
    ctx := { closing.ctx with runCount := 3, runEnd := 127 } }

theorem witness_StepKeepsWidths : ∃ t, narrow.FitsWidths ∧ step narrow = .next t := ⟨_, by decide, rfl⟩

/-- R216 with CNT_W = 2: three Data frames are counted, a fourth leaves the count at 3. -/
theorem test_count_saturates :
    after (fun t => t.ctx.runCount) (exec (.data 0 94) { narrow with ctx := { narrow.ctx with runCount := 2 } }) = some 3 ∧
      after (fun t => t.ctx.runCount) (exec (.data 0 94) narrow) = some 3 := by decide

theorem witness_InterferencePulseContributesNoBit :
    (received 0x413 4).cls = .observe ∧
      ({ received 0x413 4 with input := interfEvents 35 } : State).input = interfEvents 35 ++ [] :=
  ⟨by decide, by rw [List.append_nil]⟩

theorem witness_GlitchPulseKeepsOnlyClockRise :
    State.reset.cls = .observe ∧
      ({ State.reset with input := glitchEvents 70 true } : State).input = glitchEvents 70 true ++ [] :=
  ⟨by decide, by rw [List.append_nil]⟩

/-- V5: eleven bits are too many, ten are not. -/
theorem witness_MaskedRiseRepeatsPreviousBit :
    (received 0x413 10).cls = .observe ∧ (received 0x413 10).par.noiseMasksClkRise = true ∧ (received 0x413 10).fb.length < 11 ∧
      (received 0x413 10).opts.showClk = false ∧ (received 0x413 10).opts.showBit = false ∧
      (received 0x413 10).pulseStart + 2 ≤ 84 := by decide

end Sys2Proof.Tests
end

section
/-!
PROOFS. The scope family: what a step takes and runs, what it consumes and appends, the widths it keeps, and what neither a
step nor RESET writes. `StepEffect` says once what the step that takes an event can write, and under which guards.
-/

namespace Sys2Proof.Machine

/-! ### What a step that takes an event does (R130 to R137) -/

/-- The state after the input port's head is taken is the state with the rest of the input. -/
theorem consume_of_input {s : State} {ev : Event} {rest : List Event} (h : s.input = ev :: rest) :
    s.consume = { s with input := rest } := by
  simp only [State.consume, h, List.tail_cons]

theorem step_of_input_nil {s : State} (h : s.input = []) : step s = .next s := by
  simp only [step, h]

/-- What the step that takes `ev` in `s` can lead to. A frame's operation happens only within `clockFall`, whose completion
finds a full buffer; the six frame instructions themselves are decoded from no event. -/
inductive StepEffect (s : State) (ev : Event) : State → Prop
  | nothing : StepEffect s ev s.consume
  | leaveSkip (hcls : s.cls = .skipToFall) (htc : ev.tc = true) (hclk : ev.clk = false) :
      StepEffect s ev s.consume.leaveSkip
  | enterSkip (hcls : s.cls = .observe) (hcode : ev.tc = true ∧ ev.td = true ∧ ev.clk = true ∧ ev.data = true) :
      StepEffect s ev s.consume.enterSkip
  | clockRise (hcls : s.cls = .observe) (htc : ev.tc = true) (hclk : ev.clk = true) :
      StepEffect s ev (s.consume.clockRise ev.data ev.pos)
  | clockFall (hcls : s.cls = .observe) (htc : ev.tc = true) (hclk : ev.clk = false) :
      StepEffect s ev (s.consume.clockFall ev.dv ev.dir ev.pos)

/-- While an interference is skipped an event ends the skip or does nothing (R131). -/
theorem stepEffect_of_skipping {s t : State} {ev : Event} (hc : s.cls = .skipToFall)
    (h : exec (decodeSkipping ev) s.consume = .next t) : StepEffect s ev t := by
  unfold decodeSkipping at h
  split at h
  next hend =>
    simp only [Bool.and_eq_true, Bool.not_eq_true'] at hend
    cases h
    exact .leaveSkip hc hend.1 hend.2
  next =>
    split at h <;> cases h <;> exact .nothing

/-- In the observing state an event begins a skip, is delivered as a clock edge, or does nothing (R132 to R137). -/
theorem stepEffect_of_observing {s t : State} {ev : Event} {masks : Bool} (hc : s.cls = .observe)
    (h : exec (decodeObserving masks ev) s.consume = .next t) : StepEffect s ev t := by
  unfold decodeObserving at h
  split at h
  next hcode =>
    simp only [Bool.and_eq_true, and_assoc] at hcode
    cases h
    exact .enterSkip hc hcode
  next =>
    split at h
    next => cases h; exact .nothing
    next =>
      split at h
      next hrise =>
        obtain ⟨htc, hclk⟩ := Bool.and_eq_true_iff.mp hrise
        cases h
        exact .clockRise hc htc hclk
      next =>
        split at h
        next hfall =>
          simp only [Bool.and_eq_true, Bool.not_eq_true'] at hfall
          cases h
          exact .clockFall hc hfall.1 hfall.2
        next =>
          repeat' split at h
          all_goals cases h; exact .nothing

/-- A step that takes an event has one of the effects listed. -/
theorem stepEffect_of_step {s t : State} {ev : Event} {rest : List Event} (hi : s.input = ev :: rest)
    (h : step s = .next t) : StepEffect s ev t := by
  rw [step_cons s ev rest hi, State.operationOf] at h
  cases hc : s.cls with
  | skipToFall => exact stepEffect_of_skipping hc (by rwa [hc] at h)
  | observe => exact stepEffect_of_observing hc (by rwa [hc] at h)

/-- Any step leaves the state as it is or has one of the effects of the event it takes. -/
theorem stepEffect_or_eq {s t : State} (h : step s = .next t) : t = s ∨ ∃ ev ∈ s.input, StepEffect s ev t := by
  rcases step_cases h with ⟨_, rfl⟩ | ⟨ev, rest, hi, _⟩
  · exact .inl rfl
  · exact .inr ⟨ev, by simp [hi], stepEffect_of_step hi h⟩

/-! ### What every step leaves unchanged -/

/-- An event is consumed whatever it does (R65). -/
theorem StepEffect.input_eq {s t : State} {ev : Event} (h : StepEffect s ev t) : t.input = s.input.tail := by
  cases h <;> simp

theorem StepEffect.opts_eq {s t : State} {ev : Event} (h : StepEffect s ev t) : t.opts = s.opts := by
  cases h <;> simp

theorem StepEffect.par_eq {s t : State} {ev : Event} (h : StepEffect s ev t) : t.par = s.par := by
  cases h <;> simp

/-! ### What a step makes of the frame buffer (R154, R157, R160) -/

/-- The buffer after an accepted pulse: one bit appended, and at most twelve kept. -/
def State.fbAppended (s : State) : List Entry :=
  (s.fb ++ [Entry.mk s.curBit s.pulseStart]).drop (s.fb.length + 1 - 12)

@[simp] theorem State.acceptPulse_fb (s : State) (dv dir : Bool) (pos : Nat) :
    (s.acceptPulse dv dir pos).fb = s.fbAppended := by
  rw [acceptPulse_eq, State.fbAppended]

theorem State.fbAppended_length_le (s : State) : s.fbAppended.length ≤ s.fb.length + 1 := by
  simp [State.fbAppended]

/-- A completed frame empties the buffer or keeps it. -/
theorem complete_fb (s : State) (endPos : Nat) : (s.complete endPos).fb = [] ∨ (s.complete endPos).fb = s.fb := by
  rcases complete_cases s endPos with ⟨_, _, _, h⟩ | ⟨_, _, _, h⟩ | ⟨_, _, h⟩ | ⟨_, h⟩ | ⟨_, h⟩ | ⟨_, h⟩ <;> rw [h]
  · exact .inl (State.sresetFrame_fb ..)
  · exact .inl (State.sselFrame_fb ..)
  · exact .inl (State.sctlFrame_fb ..)
  · exact .inl (State.dataFrame_fb ..)
  · exact .inr (State.nullFrame_fb ..)
  · rw [unclassifiedFrame_eq]
    by_cases hd : s.dec = .search <;> simp [hd]

theorem clockRise_fb (s : State) (data : Bool) (pos : Nat) :
    (s.clockRise data pos).fb = [] ∨ (s.clockRise data pos).fb = s.fb := by
  rcases clockRise_cases s data pos with ⟨_, h⟩ | ⟨_, h⟩ <;> simp [h]

theorem clockFall_fb (s : State) (dv dir : Bool) (pos : Nat) :
    (s.clockFall dv dir pos).fb = [] ∨ (s.clockFall dv dir pos).fb = s.fb ∨
      (s.clockFall dv dir pos).fb = s.fbAppended := by
  rcases clockFall_cases s dv dir pos with ⟨_, h⟩ | ⟨_, _, h⟩ | ⟨_, _, h⟩ <;> rw [h]
  · exact .inr (.inl rfl)
  · exact .inr (.inr (State.acceptPulse_fb ..))
  · rcases complete_fb (s.acceptPulse dv dir pos) pos with hfb | hfb
    · exact .inl hfb
    · exact .inr (.inr (hfb.trans (State.acceptPulse_fb ..)))

/-- A step empties the buffer, keeps it, or appends one bit to it. -/
theorem StepEffect.fb_cases {s t : State} {ev : Event} (h : StepEffect s ev t) :
    t.fb = [] ∨ t.fb = s.fb ∨ t.fb = s.fbAppended := by
  cases h with
  | nothing | leaveSkip | enterSkip => exact .inr (.inl rfl)
  | clockRise => exact (clockRise_fb s.consume ev.data ev.pos).imp_right .inl
  | clockFall => exact clockFall_fb s.consume ev.dv ev.dir ev.pos

/-! ### The field fold (R13) -/

/-- A word is the sum of its bits' weights. -/
theorem toNat_eq_sum_getLsbD {n : Nat} (x : BitVec n) :
    x.toNat = ((List.range n).map (fun k => (x.getLsbD k).toNat * 2 ^ k)).sum := by
  have low (m : Nat) : x.toNat % 2 ^ m = ((List.range m).map (fun k => (x.getLsbD k).toNat * 2 ^ k)).sum := by
    induction m with
    | zero => simp [Nat.mod_one]
    | succ m ih =>
      have htop : (x.getLsbD m).toNat = x.toNat / 2 ^ m % 2 := Nat.toNat_testBit ..
      simp [Nat.mod_pow_succ, ih, List.range_succ, htop, Nat.mul_comm]
  rw [← low, Nat.mod_eq_of_lt x.isLt]

/-! ### The widths of positions and counts (R8, R20, R96, R98, R216) -/

theorem fitsPos_zero (par : Params) : par.fitsPos 0 := Nat.two_pow_pos _

theorem fitsCount_zero (par : Params) : par.fitsCount 0 := Nat.two_pow_pos _

/-- Only RUN_COUNT publishes a count (R98). -/
theorem published_eq_zero {ss es : Nat} {body : RecordBody} (h : ∀ n, body ≠ .runCount n) :
    (Record.mk ss es body).published = 0 := by
  cases body with
  | runCount n => exact absurd rfl (h n)
  | _ => rfl

/-- A record that publishes no count fits where its positions do. -/
theorem fitsRecord_of_pos {par : Params} {ss es : Nat} {body : RecordBody} (hss : par.fitsPos ss) (hes : par.fitsPos es)
    (h : ∀ n, body ≠ .runCount n) : par.fitsRecord ⟨ss, es, body⟩ :=
  ⟨hss, hes, by rw [published_eq_zero h]; exact fitsCount_zero par⟩

/-- A data value's channel is no RUN_COUNT (R212). -/
theorem dataChannel_ne_runCount (s : State) (value : ByteField) (n : Nat) : s.dataChannel value ≠ .runCount n := by
  unfold State.dataChannel
  repeat' split
  all_goals nofun

/-- To keep the widths an update keeps the parameters, brings no new event, writes registers that fit and appends records
that fit. -/
theorem fitsWidths_of_update {s t : State} {rs : List Record} (h : s.FitsWidths) (hpar : t.par = s.par)
    (hin : ∀ ev ∈ t.input, ev ∈ s.input) (hreg : t.registersFit) (hout : t.output = s.output ++ rs)
    (hrs : ∀ r ∈ rs, s.par.fitsRecord r) : t.FitsWidths := by
  obtain ⟨hinput, -, hrecords⟩ := h
  refine ⟨fun ev hev => ?_, hreg, fun r hr => ?_⟩
  · rw [hpar]
    exact hinput ev (hin ev hev)
  · rw [hout, List.mem_append] at hr
    rw [hpar]
    exact hr.elim (hrecords r) (hrs r)

theorem fitsWidths_consume {s : State} (h : s.FitsWidths) : s.consume.FitsWidths :=
  ⟨fun ev hev => h.1 ev (List.mem_of_mem_tail hev), h.2⟩

theorem fitsWidths_clockRise {s : State} {data : Bool} {pos : Nat} (h : s.FitsWidths) (hpos : s.par.fitsPos pos) :
    (s.clockRise data pos).FitsWidths := by
  obtain ⟨hinput, ⟨-, hstart, hfb, hrun⟩, hrecords⟩ := h
  rcases clockRise_cases s data pos with ⟨_, heq⟩ | ⟨_, heq⟩ <;> rw [heq]
  · exact ⟨hinput, ⟨hpos, hpos, by simp, hrun⟩, hrecords⟩
  · exact ⟨hinput, ⟨hpos, hstart, hfb, hrun⟩, hrecords⟩

theorem fitsWidths_acceptPulse {s : State} {dv dir : Bool} {pos : Nat} (h : s.FitsWidths) (hpos : s.par.fitsPos pos) :
    (s.acceptPulse dv dir pos).FitsWidths := by
  obtain ⟨-, ⟨hpulse, hstart, hfb, hrun⟩, -⟩ := id h
  have hbuffer : ∀ e ∈ s.fbAppended, s.par.fitsPos e.pos := by
    intro e he
    rcases List.mem_append.mp (List.mem_of_mem_drop he) with he | he
    · exact hfb e he
    · rw [List.mem_singleton.mp he]
      exact hpulse
  have hrecords : ∀ r ∈ recordsIf s.opts.showClk [s.pulseRecord pos .clk] ++
      recordsIf s.opts.showBit [s.pulseRecord pos (.bit s.curBit)], s.par.fitsRecord r := by
    intro r hr
    simp only [List.mem_append, mem_recordsIf, List.mem_singleton] at hr
    rcases hr with ⟨-, rfl⟩ | ⟨-, rfl⟩
    · exact fitsRecord_of_pos hpulse hpos nofun
    · exact fitsRecord_of_pos hpulse hpos nofun
  rw [acceptPulse_eq]
  exact fitsWidths_of_update h rfl (fun _ => id) ⟨hpulse, hstart, hbuffer, hrun⟩ (List.append_assoc ..) hrecords

/-! ### The completed frame: its buffer is full, so that every span ends at an entry that is there -/

section Completed

variable {s : State} {endPos : Nat}

theorem fitsPos_fbPos (h : s.FitsWidths) {i : Nat} (hi : i < s.fb.length) : s.par.fitsPos (s.fbPos i) := by
  obtain ⟨-, ⟨-, -, hfb, -⟩, -⟩ := h
  rw [fbPos_of_lt hi]
  exact hfb _ (List.getElem_mem hi)

theorem fitsRecord_frameRecord (h : s.FitsWidths) (hend : s.par.fitsPos endPos) {body : RecordBody}
    (hbody : ∀ n, body ≠ .runCount n) : s.par.fitsRecord (s.frameRecord endPos body) := by
  obtain ⟨-, ⟨-, hstart, -⟩, -⟩ := h
  exact fitsRecord_of_pos hstart hend hbody

theorem fitsRecord_spanRecord (h : s.FitsWidths) (hfull : s.fb.length = 12) (hend : s.par.fitsPos endPos) {lo hi : Nat}
    (hlo : lo < 12) {body : RecordBody} (hbody : ∀ n, body ≠ .runCount n) :
    s.par.fitsRecord (s.spanRecord lo hi endPos body) := by
  refine fitsRecord_of_pos (fitsPos_fbPos h (by omega)) ?_ hbody
  unfold State.spanEnd
  split
  · exact fitsPos_fbPos h (by omega)
  · exact hend

theorem fitsRecord_runRecord (h : s.FitsWidths) : s.par.fitsRecord s.ctx.runRecord := by
  obtain ⟨-, ⟨-, -, -, hrunStart, hrunEnd, hrunCount⟩, -⟩ := h
  exact ⟨hrunStart, hrunEnd, hrunCount⟩

theorem fitsRecord_controlHead (h : s.FitsWidths) (hend : s.par.fitsPos endPos) :
    ∀ r ∈ controlHead s endPos, s.par.fitsRecord r := by
  intro r hr
  simp only [controlHead, List.mem_cons, mem_recordsIf, List.not_mem_nil, or_false] at hr
  rcases hr with rfl | ⟨-, rfl⟩
  · exact fitsRecord_frameRecord h hend nofun
  · exact fitsRecord_runRecord h

theorem fitsRecord_selRstRecords (h : s.FitsWidths) (hfull : s.fb.length = 12) (hend : s.par.fitsPos endPos) (sel : Bool)
    (addr : Addr) : ∀ r ∈ s.selRstRecords sel addr endPos, s.par.fitsRecord r := by
  simp only [State.selRstRecords, List.forall_mem_cons]
  exact ⟨fitsRecord_frameRecord h hend nofun, fitsRecord_spanRecord h hfull hend (by decide) nofun, nofun⟩

theorem fitsRecord_sctlRecords (h : s.FitsWidths) (hfull : s.fb.length = 12) (hend : s.par.fitsPos endPos)
    (sm bw rw : Bool) (reg : RegNum) : ∀ r ∈ s.sctlRecords sm bw rw reg endPos, s.par.fitsRecord r := by
  have span {lo hi : Nat} (hlo : lo < 12) {body : RecordBody} (hbody : ∀ n, body ≠ .runCount n) :
      s.par.fitsRecord (s.spanRecord lo hi endPos body) := fitsRecord_spanRecord h hfull hend hlo hbody
  simp only [State.sctlRecords, List.forall_mem_cons]
  exact ⟨fitsRecord_frameRecord h hend nofun, span (by decide) nofun, span (by decide) nofun, span (by decide) nofun,
    span (by decide) nofun, span (by decide) nofun, nofun⟩

/-- Any Control frame: the run closed, the fields' records that fit, and what is not a position or a count (R171). -/
theorem fitsWidths_controlFrame (h : s.FitsWidths) (hend : s.par.fitsPos endPos) {rs : List Record}
    (hrs : ∀ r ∈ rs, s.par.fitsRecord r) (expect valid : Bool) (reg : RegNum) :
    State.FitsWidths
      { s with
        fb := [], ctx := { s.ctx.clearRun with expectAsic := expect, curRegValid := valid, curReg := reg }
        output := s.output ++ controlHead s endPos ++ rs } := by
  obtain ⟨-, ⟨hpulse, hstart, -, hrunStart, hrunEnd, hrunCount⟩, -⟩ := id h
  have hclearStart : s.par.fitsPos s.ctx.clearRun.runStart := by
    rw [clearRun_runStart]
    split
    · exact fitsPos_zero s.par
    · exact hrunStart
  have hclearEnd : s.par.fitsPos s.ctx.clearRun.runEnd := by rwa [clearRun_runEnd]
  have hclearCount : s.par.fitsCount s.ctx.clearRun.runCount := by
    rw [clearRun_runCount]
    split
    · exact fitsCount_zero s.par
    · exact hrunCount
  refine fitsWidths_of_update h rfl (fun _ => id) ?_ (List.append_assoc ..)
    (List.forall_mem_append.mpr ⟨fitsRecord_controlHead h hend, hrs⟩)
  exact ⟨hpulse, hstart, nofun, hclearStart, hclearEnd, hclearCount⟩

theorem fitsWidths_dataFrame (h : s.FitsWidths) (hfull : s.fb.length = 12) (hend : s.par.fitsPos endPos)
    (value : ByteField) : (s.dataFrame value endPos).FitsWidths := by
  obtain ⟨-, ⟨hpulse, hstart, -, hrunStart, -, -⟩, -⟩ := id h
  have hopenStart : s.par.fitsPos (if s.ctx.runOpen then s.ctx.runStart else s.frameStart) := by
    split
    · exact hrunStart
    · exact hstart
  have hrecords : ∀ r ∈ [s.frameRecord endPos .dataFrame, s.spanRecord 3 10 endPos (s.dataChannel value)],
      s.par.fitsRecord r := by
    simp only [List.forall_mem_cons]
    exact ⟨fitsRecord_frameRecord h hend nofun,
      fitsRecord_spanRecord h hfull hend (by decide) (dataChannel_ne_runCount s value), nofun⟩
  rw [dataFrame_eq, advanceRun_openRun]
  refine fitsWidths_of_update h rfl (fun _ => id) ?_ rfl hrecords
  exact ⟨hpulse, hstart, nofun, hopenStart, hend, saturatingSucc_lt _ _⟩

theorem fitsWidths_nullFrame (h : s.FitsWidths) (hend : s.par.fitsPos endPos) : (s.nullFrame endPos).FitsWidths := by
  obtain ⟨-, hregisters, -⟩ := id h
  rw [nullFrame_eq]
  refine fitsWidths_of_update h rfl (fun _ => id) hregisters rfl ?_
  simp only [List.forall_mem_cons]
  exact ⟨fitsRecord_of_pos hend hend nofun, nofun⟩

theorem fitsWidths_unclassifiedFrame (h : s.FitsWidths) (hend : s.par.fitsPos endPos) (raw : FrameWord) :
    (s.unclassifiedFrame raw endPos).FitsWidths := by
  obtain ⟨-, ⟨hpulse, hstart, hfb, hrun⟩, -⟩ := id h
  have hbuffer : ∀ e ∈ if s.dec = .search then s.fb else [], s.par.fitsPos e.pos := by
    split
    · exact hfb
    · nofun
  have hrecords : ∀ r ∈ recordsIf s.opts.showDebug [s.frameRecord endPos (.rawFrame raw)], s.par.fitsRecord r := by
    intro r hr
    obtain ⟨-, hr⟩ := mem_recordsIf.mp hr
    rw [List.mem_singleton.mp hr]
    exact fitsRecord_frameRecord h hend nofun
  rw [unclassifiedFrame_eq]
  exact fitsWidths_of_update h rfl (fun _ => id) ⟨hpulse, hstart, hbuffer, hrun⟩ rfl hrecords

theorem fitsWidths_complete (h : s.FitsWidths) (hfull : s.fb.length = 12) (hend : s.par.fitsPos endPos) :
    (s.complete endPos).FitsWidths := by
  rcases complete_cases s endPos with ⟨_, _, _, heq⟩ | ⟨_, _, _, heq⟩ | ⟨_, _, heq⟩ | ⟨_, heq⟩ | ⟨_, heq⟩ | ⟨_, heq⟩ <;>
    rw [heq]
  · rw [sresetFrame_eq]
    exact fitsWidths_controlFrame h hend (fitsRecord_selRstRecords h hfull hend _ _) _ _ _
  · rw [sselFrame_eq]
    exact fitsWidths_controlFrame h hend (fitsRecord_selRstRecords h hfull hend _ _) _ _ _
  · rw [sctlFrame_eq]
    exact fitsWidths_controlFrame h hend (fitsRecord_sctlRecords h hfull hend _ _ _ _) _ _ _
  · exact fitsWidths_dataFrame h hfull hend _
  · exact fitsWidths_nullFrame h hend
  · exact fitsWidths_unclassifiedFrame h hend _

end Completed

theorem fitsWidths_clockFall {s : State} {dv dir : Bool} {pos : Nat} (h : s.FitsWidths) (hpos : s.par.fitsPos pos) :
    (s.clockFall dv dir pos).FitsWidths := by
  rcases clockFall_cases s dv dir pos with ⟨_, heq⟩ | ⟨_, _, heq⟩ | ⟨_, hlen, heq⟩ <;> rw [heq]
  · exact h
  · exact fitsWidths_acceptPulse h hpos
  · have hfull : (s.acceptPulse dv dir pos).fb.length = 12 := by
      rw [acceptPulse_length]
      omega
    exact fitsWidths_complete (fitsWidths_acceptPulse h hpos) hfull (by rwa [State.acceptPulse_par])

/-- An event whose position fits leads to a state that fits. -/
theorem StepEffect.fitsWidths {s t : State} {ev : Event} (h : StepEffect s ev t) (hs : s.FitsWidths)
    (hpos : s.par.fitsPos ev.pos) : t.FitsWidths := by
  have hconsumed : s.consume.FitsWidths := fitsWidths_consume hs
  cases h with
  | nothing | leaveSkip | enterSkip => exact hconsumed
  | clockRise => exact fitsWidths_clockRise hconsumed hpos
  | clockFall => exact fitsWidths_clockFall hconsumed hpos

/-! ### The obligations -/

/-- Settles O59, by what each effect of an event does to the widths; a completion reads positions of a full buffer only. -/
theorem stepKeepsWidths : Obligations.StepKeepsWidths := by
  intro s t hs h
  rcases stepEffect_or_eq h with rfl | ⟨ev, hev, heffect⟩
  · exact hs
  · exact heffect.fitsWidths hs (hs.1 ev hev)

/-- Settles O5, by the effects of an event on the input port and on the buffer. -/
theorem stepConsumesOneEventAppendsAtMostOneBit : Obligations.StepConsumesOneEventAppendsAtMostOneBit := by
  intro s t ev rest hi h
  have heffect := stepEffect_of_step hi h
  have hfb := heffect.fb_cases
  refine ⟨by rw [heffect.input_eq, hi, List.tail_cons], ?_, hfb⟩
  rcases hfb with hfb | hfb | hfb <;> rw [hfb]
  · exact Nat.zero_le _
  · exact Nat.le_succ _
  · exact s.fbAppended_length_le

/-- Settles O11: the field is the sum of its own bits' weights, and its bit `k` is the buffer's bit `lo + k`. -/
theorem fieldFoldIsLeastSignificantFirst : Obligations.FieldFoldIsLeastSignificantFirst := by
  refine ⟨fun s lo n _ hhi => ?_, by decide⟩
  rw [toNat_eq_sum_getLsbD]
  congr 1
  refine List.map_congr_left fun k hk => ?_
  have hk : k < n := List.mem_range.mp hk
  have hbit : (s.frameWord.extractLsb' lo n).getLsbD k = s.frameWord.getLsbD (lo + k) := by
    simp [hk]
  rw [hbit, frameWord_getLsbD s (lo + k) (by omega)]

/-- Settles O39: no effect of an event writes the configuration bits or the parameters. -/
theorem optionsAndParametersWrittenByNoStep : Obligations.OptionsAndParametersWrittenByNoStep := by
  intro s t h
  rcases stepEffect_or_eq h with rfl | ⟨ev, _, heffect⟩
  · exact ⟨rfl, rfl⟩
  · exact ⟨heffect.opts_eq, heffect.par_eq⟩

/-- Settles O1. -/
theorem stepRunsDecodedEvent : Obligations.StepRunsDecodedEvent := by
  rintro s ev rest _ hi rfl
  rw [step_cons s ev rest hi, consume_of_input hi, State.operationOf]

/-- Settles O3. -/
theorem emptyInputStepChangesNothing : Obligations.EmptyInputStepChangesNothing :=
  fun _ => step_of_input_nil

/-- Every arm of `exec` answers a next state (R12). -/
theorem exec_completes (i : Instr) (s : State) : ∃ t, exec i s = .next t := by
  cases i <;> exact ⟨_, rfl⟩

/-- Settles O4, for a step by whether there is an event to take. -/
theorem everyInstructionAndStepCompletes : Obligations.EveryInstructionAndStepCompletes := by
  refine ⟨exec_completes, fun s => ?_⟩
  cases hi : s.input with
  | nil => exact ⟨s, step_of_input_nil hi⟩
  | cons ev rest =>
    rw [step_cons s ev rest hi]
    exact exec_completes _ _

/-- Settles O45: RESET writes every field but these two and the output, each with the value `State.reset` has. -/
theorem resetLeavesParametersAndInput : Obligations.ResetLeavesParametersAndInput :=
  fun _ => ⟨rfl, rfl, rfl⟩

end Sys2Proof.Machine
end

section
/-!
PROOFS. The state family: the invariants of R51 and the order of positions that every step keeps, what the options and the
register number cannot influence, and who writes `dec` and `asic_flag`.
-/

namespace Sys2Proof.Machine

/-! ### The buffer after an accepted pulse (R154, R157) -/

theorem State.fbAppended_of_lt {s : State} (h : s.fb.length < 12) :
    s.fbAppended = s.fb ++ [Entry.mk s.curBit s.pulseStart] := by
  have h0 : s.fb.length + 1 - 12 = 0 := by omega
  rw [State.fbAppended, h0, List.drop_zero]

/-- A full buffer loses its oldest entry (R157, R160(c)). -/
theorem State.fbAppended_of_full {s : State} (h : s.fb.length = 12) :
    s.fbAppended = s.fb.tail ++ [Entry.mk s.curBit s.pulseStart] := by
  rw [State.fbAppended, h, List.drop_append_of_le_length (by omega), List.drop_one]

theorem State.mem_fbAppended {s : State} {e : Entry} (h : e ∈ s.fbAppended) :
    e ∈ s.fb ∨ e = Entry.mk s.curBit s.pulseStart := by
  simpa using List.mem_of_mem_drop h

/-- The bit just received is always among those kept. -/
theorem State.received_mem_fbAppended (s : State) : Entry.mk s.curBit s.pulseStart ∈ s.fbAppended := by
  rw [State.fbAppended, List.drop_append]
  exact List.mem_append_right _ (by simp)

theorem State.fbAppended_zeros {s : State} (hfb : ∀ e ∈ s.fb, e.bit = false) (hbit : s.curBit = false) :
    ∀ e ∈ s.fbAppended, e.bit = false := by
  intro e he
  rcases State.mem_fbAppended he with he | rfl
  · exact hfb e he
  · exact hbit

/-! ### A completed frame and the decoder state (R158, R159, R173 to R175) -/

/-- A completed frame empties the buffer and leaves `dec`, or it keeps the buffer in SEARCH: a Null frame, or an Unclassified
frame in SEARCH. -/
theorem complete_fb_dec (s : State) (endPos : Nat) :
    ((s.complete endPos).fb = [] ∧ (s.complete endPos).dec = s.dec) ∨
      ((s.complete endPos).fb = s.fb ∧ (s.complete endPos).dec = .search ∧ (s.frameWord = 0 ∨ s.dec = .search)) := by
  rcases complete_cases s endPos with ⟨_, _, _, h⟩ | ⟨_, _, _, h⟩ | ⟨_, _, h⟩ | ⟨_, h⟩ | ⟨hnull, h⟩ | ⟨_, h⟩ <;> rw [h]
  · exact .inl ⟨by simp, by simp⟩
  · exact .inl ⟨by simp, by simp⟩
  · exact .inl ⟨by simp, by simp⟩
  · exact .inl ⟨by simp, by simp⟩
  · exact .inr ⟨by simp, by simp, .inl ((classify_null_iff _).mp hnull)⟩
  · by_cases hd : s.dec = .search <;> simp [unclassifiedFrame_eq, hd]

theorem complete_of_word_zero {s : State} (h : s.frameWord = 0) (endPos : Nat) :
    s.complete endPos = s.nullFrame endPos := by
  simp only [State.complete, (classify_null_iff _).mpr h]

/-! ### The invariants I1, I2, I3 and I5 (R51) -/

theorem inv_clockRise {s : State} {data : Bool} {pos : Nat} (h : s.Inv) : (s.clockRise data pos).Inv := by
  obtain ⟨hbound, hsearch, hnotFull, hrun⟩ := h
  rcases clockRise_cases s data pos with ⟨_, heq⟩ | ⟨hno, heq⟩ <;> rw [heq]
  · exact ⟨Nat.zero_le _, nofun, fun _ => Nat.zero_le _, hrun⟩
  · have hdata (hd : s.dec = .search) : data = false := Bool.eq_false_iff.mpr fun hone => hno (.inl ⟨hd, hone⟩)
    exact ⟨hbound, fun hd => ⟨hdata hd, (hsearch hd).2⟩, hnotFull, hrun⟩

theorem searchHoldsZeros_acceptPulse {s : State} {dv dir : Bool} {pos : Nat} (h : s.searchHoldsZeros) :
    (s.acceptPulse dv dir pos).searchHoldsZeros := by
  intro hd
  rw [State.acceptPulse_dec] at hd
  obtain ⟨hbit, hfb⟩ := h hd
  rw [State.acceptPulse_curBit, State.acceptPulse_fb]
  exact ⟨hbit, State.fbAppended_zeros hfb hbit⟩

/-- Closing a run clears its count with it (R214). -/
theorem clearRun_openIffCounted {c : ControlContext} (h : c.runOpen = true ↔ c.runCount ≠ 0) :
    c.clearRun.runOpen = true ↔ c.clearRun.runCount ≠ 0 := by
  cases hopen : c.runOpen <;> simp_all

theorem openIffCounted_complete {s : State} {endPos : Nat} (h : s.openIffCounted) (hbit : s.counterHasBit) :
    (s.complete endPos).openIffCounted := by
  rcases complete_cases s endPos with ⟨_, _, _, heq⟩ | ⟨_, _, _, heq⟩ | ⟨_, _, heq⟩ | ⟨_, heq⟩ | ⟨_, heq⟩ | ⟨_, heq⟩ <;>
    rw [heq]
  · rw [sresetFrame_eq]
    exact clearRun_openIffCounted h
  · rw [sselFrame_eq]
    exact clearRun_openIffCounted h
  · rw [sctlFrame_eq]
    exact clearRun_openIffCounted h
  · rw [dataFrame_eq, advanceRun_openRun]
    exact iff_of_true rfl (saturatingSucc_ne_zero hbit _)
  · exact h
  · rw [State.openIffCounted, State.unclassifiedFrame_ctx]
    exact h

/-- A completion finds a full buffer that ends in the bit just received: so a Null frame's bits are zeros, `cur_bit` included,
and a frame that keeps the buffer is in SEARCH. -/
theorem inv_complete {s : State} {endPos : Nat} (hfull : s.fb.length = 12) (hlast : ∃ e ∈ s.fb, e.bit = s.curBit)
    (hsearch : s.searchHoldsZeros) (hrun : s.openIffCounted) (hbit : s.counterHasBit) : (s.complete endPos).Inv := by
  have hrun' := openIffCounted_complete (endPos := endPos) hrun hbit
  have hbit' : (s.complete endPos).counterHasBit := by rwa [State.counterHasBit, State.complete_par]
  rcases complete_fb_dec s endPos with ⟨hfb, hdec⟩ | ⟨hfb, hdec, hzero⟩
  · refine ⟨by simp [hfb], fun hd => ⟨?_, by simp [hfb]⟩, fun _ => by simp [hfb], hrun', hbit'⟩
    rw [State.complete_curBit]
    exact (hsearch (hdec ▸ hd)).1
  · have hheld : s.curBit = false ∧ ∀ e ∈ s.fb, e.bit = false := by
      rcases hzero with hword | hd
      · have hzeros := (frameWord_eq_zero_iff s hfull).mp hword
        obtain ⟨e, he, hlast⟩ := hlast
        exact ⟨hlast ▸ hzeros e he, hzeros⟩
      · exact hsearch hd
    refine ⟨by rw [State.bufferBounded, hfb, hfull, frameLen_eq], fun _ => ?_, fun hd => ?_, hrun', hbit'⟩
    · rw [State.complete_curBit, hfb]
      exact hheld
    · rw [hdec] at hd
      cases hd

theorem inv_clockFall {s : State} {dv dir : Bool} {pos : Nat} (h : s.Inv) : (s.clockFall dv dir pos).Inv := by
  obtain ⟨_, hsearch, _, hrun, hbit⟩ := id h
  have hsearch' : (s.acceptPulse dv dir pos).searchHoldsZeros := searchHoldsZeros_acceptPulse hsearch
  have hrun' : (s.acceptPulse dv dir pos).openIffCounted := by rwa [State.openIffCounted, State.acceptPulse_ctx]
  have hbit' : (s.acceptPulse dv dir pos).counterHasBit := by rwa [State.counterHasBit, State.acceptPulse_par]
  have hlen := acceptPulse_length s dv dir pos
  rcases clockFall_cases s dv dir pos with ⟨_, heq⟩ | ⟨_, hlt, heq⟩ | ⟨_, hge, heq⟩ <;> rw [heq]
  · exact h
  · refine ⟨?_, hsearch', fun _ => ?_, hrun', hbit'⟩
    · rw [State.bufferBounded, frameLen_eq]
      omega
    · omega
  · have hlast : ∃ e ∈ (s.acceptPulse dv dir pos).fb, e.bit = (s.acceptPulse dv dir pos).curBit := by
      rw [State.acceptPulse_fb, State.acceptPulse_curBit]
      exact ⟨_, s.received_mem_fbAppended, rfl⟩
    exact inv_complete (by omega) hlast hsearch' hrun' hbit'

theorem StepEffect.inv {s t : State} {ev : Event} (h : StepEffect s ev t) (hs : s.Inv) : t.Inv := by
  have hconsumed : s.consume.Inv := hs
  cases h with
  | nothing | leaveSkip | enterSkip => exact hconsumed
  | clockRise => exact inv_clockRise hconsumed
  | clockFall => exact inv_clockFall hconsumed

/-- Settles O49, by what each effect of an event does to the buffer, `dec` and the run registers. -/
theorem stepKeepsBufferAndRunInvariants : Obligations.StepKeepsBufferAndRunInvariants := by
  intro s t hs h
  rcases stepEffect_or_eq h with rfl | ⟨_, _, heffect⟩
  · exact hs
  · exact heffect.inv hs

/-! ### What the options and the register number cannot influence (R40, R41, R195) -/

/-- The relation covers only what no branch of a step reads, and every operation a step is made of keeps it. -/
structure KeptByOperations (R : State → State → Prop) : Prop where
  branches {s u : State} (h : R s u) :
    u.cls = s.cls ∧ u.par = s.par ∧ u.input = s.input ∧ u.dec = s.dec ∧ u.fb = s.fb ∧ u.pulseStart = s.pulseStart
  consume {s u : State} (h : R s u) : R s.consume u.consume
  leaveSkip {s u : State} (h : R s u) : R s.leaveSkip u.leaveSkip
  enterSkip {s u : State} (h : R s u) : R s.enterSkip u.enterSkip
  sample {s u : State} (h : R s u) (data : Bool) (pos : Nat) : R (s.sample data pos) (u.sample data pos)
  startFrame {s u : State} (h : R s u) (pos : Nat) : R (s.startFrame pos) (u.startFrame pos)
  acceptPulse {s u : State} (h : R s u) (dv dir : Bool) (pos : Nat) :
    R (s.acceptPulse dv dir pos) (u.acceptPulse dv dir pos)
  sresetFrame {s u : State} (h : R s u) (addr : Addr) (e : Nat) : R (s.sresetFrame addr e) (u.sresetFrame addr e)
  sselFrame {s u : State} (h : R s u) (addr : Addr) (e : Nat) : R (s.sselFrame addr e) (u.sselFrame addr e)
  sctlFrame {s u : State} (h : R s u) (sm bw rw : Bool) (reg : RegNum) (e : Nat) :
    R (s.sctlFrame sm bw rw reg e) (u.sctlFrame sm bw rw reg e)
  dataFrame {s u : State} (h : R s u) (value : ByteField) (e : Nat) : R (s.dataFrame value e) (u.dataFrame value e)
  nullFrame {s u : State} (h : R s u) (e : Nat) : R (s.nullFrame e) (u.nullFrame e)
  unclassifiedFrame {s u : State} (h : R s u) (raw : FrameWord) (e : Nat) :
    R (s.unclassifiedFrame raw e) (u.unclassifiedFrame raw e)

section Related

variable {R : State → State → Prop} {s u : State}

theorem KeptByOperations.complete (hR : KeptByOperations R) (h : R s u) (endPos : Nat) :
    R (s.complete endPos) (u.complete endPos) := by
  obtain ⟨_, _, _, _, hfb, _⟩ := hR.branches h
  have hword : u.frameWord = s.frameWord := by rw [State.frameWord, hfb, State.frameWord]
  rw [State.complete, State.complete, hword]
  cases classify s.frameWord with
  | control =>
    dsimp only [State.completeControl]
    split
    · exact hR.sctlFrame h ..
    · split
      · exact hR.sselFrame h ..
      · exact hR.sresetFrame h ..
  | data => exact hR.dataFrame h ..
  | null => exact hR.nullFrame h ..
  | unclassified => exact hR.unclassifiedFrame h ..

theorem KeptByOperations.clockRise (hR : KeptByOperations R) (h : R s u) (data : Bool) (pos : Nat) :
    R (s.clockRise data pos) (u.clockRise data pos) := by
  obtain ⟨_, _, _, hdec, hfb, _⟩ := hR.branches h
  have hstart : (u.sample data pos).startsFrame data = (s.sample data pos).startsFrame data := by
    simp only [State.startsFrame, State.sample_dec, State.sample_fb, hdec, hfb]
  simp only [State.clockRise, hstart]
  split
  · exact hR.startFrame (hR.sample h data pos) pos
  · exact hR.sample h data pos

theorem KeptByOperations.clockFall (hR : KeptByOperations R) (h : R s u) (dv dir : Bool) (pos : Nat) :
    R (s.clockFall dv dir pos) (u.clockFall dv dir pos) := by
  obtain ⟨_, _, _, _, hfb, hpulse⟩ := hR.branches h
  have haccept := hR.acceptPulse h dv dir pos
  simp only [State.clockFall, hpulse, acceptPulse_length, hfb]
  split
  · exact h
  · split
    · exact hR.complete haccept pos
    · exact haccept

/-- Related states answer every instruction with related states. -/
theorem KeptByOperations.exec (hR : KeptByOperations R) (h : R s u) {i : Instr} {t : State}
    (ht : Machine.exec i s = .next t) : ∃ v, Machine.exec i u = .next v ∧ R t v := by
  cases i <;> cases ht
  case sreset => exact ⟨_, rfl, hR.sresetFrame h ..⟩
  case ssel => exact ⟨_, rfl, hR.sselFrame h ..⟩
  case sctl => exact ⟨_, rfl, hR.sctlFrame h ..⟩
  case data => exact ⟨_, rfl, hR.dataFrame h ..⟩
  case null => exact ⟨_, rfl, hR.nullFrame h ..⟩
  case unclassified => exact ⟨_, rfl, hR.unclassifiedFrame h ..⟩
  case evSkipEnd => exact ⟨_, rfl, hR.leaveSkip h⟩
  case evInterference => exact ⟨_, rfl, hR.enterSkip h⟩
  case evClkRise => exact ⟨_, rfl, hR.clockRise h ..⟩
  case evClkFall => exact ⟨_, rfl, hR.clockFall h ..⟩
  all_goals exact ⟨_, rfl, h⟩

/-- Related states take steps to related states: they read the same event and select the same operation. -/
theorem KeptByOperations.step (hR : KeptByOperations R) (h : R s u) {t : State} (ht : Machine.step s = .next t) :
    ∃ v, Machine.step u = .next v ∧ R t v := by
  obtain ⟨hcls, hpar, hinput, _⟩ := hR.branches h
  rcases step_cases ht with ⟨hnil, rfl⟩ | ⟨ev, rest, hi, hexec⟩
  · exact ⟨u, step_of_input_nil (hinput.trans hnil), h⟩
  · rw [step_cons u ev rest (hinput.trans hi), State.operationOf, hcls, hpar]
    exact hR.exec (hR.consume h) hexec

end Related

/-- `u` is `s` with the options `opts` and some records. -/
def withOptionsAndRecords (opts : Options) (s u : State) : Prop :=
  ∃ output, u = { s with opts := opts, output := output }

/-- What the options choose goes to the output only. -/
theorem withOptionsAndRecords_kept (opts : Options) : KeptByOperations (withOptionsAndRecords opts) where
  branches := by rintro s _ ⟨out, rfl⟩; exact ⟨rfl, rfl, rfl, rfl, rfl, rfl⟩
  consume := by rintro s _ ⟨out, rfl⟩; exact ⟨_, rfl⟩
  leaveSkip := by rintro s _ ⟨out, rfl⟩; exact ⟨_, rfl⟩
  enterSkip := by rintro s _ ⟨out, rfl⟩; exact ⟨_, rfl⟩
  sample := by rintro s _ ⟨out, rfl⟩ _ _; exact ⟨_, rfl⟩
  startFrame := by rintro s _ ⟨out, rfl⟩ _; exact ⟨_, rfl⟩
  acceptPulse := by rintro s _ ⟨out, rfl⟩ _ _ _; simp only [acceptPulse_eq]; exact ⟨_, rfl⟩
  sresetFrame := by rintro s _ ⟨out, rfl⟩ _ _; simp only [sresetFrame_eq]; exact ⟨_, rfl⟩
  sselFrame := by rintro s _ ⟨out, rfl⟩ _ _; simp only [sselFrame_eq]; exact ⟨_, rfl⟩
  sctlFrame := by rintro s _ ⟨out, rfl⟩ _ _ _ _ _; simp only [sctlFrame_eq]; exact ⟨_, rfl⟩
  dataFrame := by rintro s _ ⟨out, rfl⟩ _ _; simp only [dataFrame_eq]; exact ⟨_, rfl⟩
  nullFrame := by rintro s _ ⟨out, rfl⟩ _; exact ⟨_, rfl⟩
  unclassifiedFrame := by rintro s _ ⟨out, rfl⟩ _ _; simp only [unclassifiedFrame_eq]; exact ⟨_, rfl⟩

/-- Settles O40, by the relation between the two states that every operation keeps. -/
theorem optionsChangeOnlyRecords : Obligations.OptionsChangeOnlyRecords := by
  intro s t opts output h
  obtain ⟨_, hstep, output', rfl⟩ := (withOptionsAndRecords_kept opts).step ⟨output, rfl⟩ h
  exact ⟨output', hstep⟩

/-- The Control Context with another register number. -/
def ControlContext.withRegister (c : ControlContext) (reg : RegNum) (valid : Bool) : ControlContext :=
  { c with curReg := reg, curRegValid := valid }

theorem clearRun_withRegister (c : ControlContext) (reg : RegNum) (valid : Bool) :
    (c.withRegister reg valid).clearRun = c.clearRun.withRegister reg valid := by
  cases h : c.runOpen <;> simp [ControlContext.clearRun, ControlContext.withRegister, h]

/-- `u` is `s` with some register number. -/
def withSomeRegister (s u : State) : Prop :=
  ∃ reg valid, u = { s with ctx := s.ctx.withRegister reg valid }

theorem withSomeRegister_kept : KeptByOperations withSomeRegister where
  branches := by rintro s _ ⟨reg, valid, rfl⟩; exact ⟨rfl, rfl, rfl, rfl, rfl, rfl⟩
  consume := by rintro s _ ⟨reg, valid, rfl⟩; exact ⟨_, _, rfl⟩
  leaveSkip := by rintro s _ ⟨reg, valid, rfl⟩; exact ⟨_, _, rfl⟩
  enterSkip := by rintro s _ ⟨reg, valid, rfl⟩; exact ⟨_, _, rfl⟩
  sample := by rintro s _ ⟨reg, valid, rfl⟩ _ _; exact ⟨_, _, rfl⟩
  startFrame := by rintro s _ ⟨reg, valid, rfl⟩ _; exact ⟨_, _, rfl⟩
  acceptPulse := by rintro s _ ⟨reg, valid, rfl⟩ _ _ _; simp only [acceptPulse_eq]; exact ⟨_, _, rfl⟩
  sresetFrame := by
    rintro s _ ⟨reg, valid, rfl⟩ _ _
    simp only [sresetFrame_eq, clearRun_withRegister]
    exact ⟨reg, false, rfl⟩
  sselFrame := by
    rintro s _ ⟨reg, valid, rfl⟩ _ _
    simp only [sselFrame_eq, clearRun_withRegister]
    exact ⟨reg, false, rfl⟩
  sctlFrame := by
    rintro s _ ⟨_, _, rfl⟩ _ _ _ reg _
    simp only [sctlFrame_eq, clearRun_withRegister]
    exact ⟨reg, true, rfl⟩
  dataFrame := by
    rintro s _ ⟨reg, valid, rfl⟩ _ _
    simp only [dataFrame_eq, advanceRun_openRun]
    exact ⟨reg, valid, rfl⟩
  nullFrame := by rintro s _ ⟨reg, valid, rfl⟩ _; exact ⟨_, _, rfl⟩
  unclassifiedFrame := by rintro s _ ⟨reg, valid, rfl⟩ _ _; simp only [unclassifiedFrame_eq]; exact ⟨_, _, rfl⟩

/-- Settles O38, by the relation between the two states that every operation keeps. -/
theorem registerNumberReadByNothing : Obligations.RegisterNumberReadByNothing := by
  intro s t reg valid h
  obtain ⟨_, hstep, reg', valid', rfl⟩ := withSomeRegister_kept.step ⟨reg, valid, rfl⟩ h
  exact ⟨reg', valid', hstep⟩

/-! ### The order of positions (R51 I6, R69, R270) -/

/-- Positions are in order in a state that handles an event at `now`: nothing held is later, nothing to come is earlier. -/
structure State.OrderedAt (s : State) (now : Nat) : Prop where
  inputSorted : s.input.Pairwise (fun a b => a.pos ≤ b.pos)
  inputLater : ∀ ev ∈ s.input, now ≤ ev.pos
  pulse : s.pulseStart ≤ now
  start : s.frameStart ≤ now
  runEnd : s.ctx.runEnd ≤ now
  buffer : s.bufferOrdered
  run : s.runOrdered
  records : s.recordsOrdered

theorem State.OrderedAt.ordered {s : State} {now : Nat} (h : s.OrderedAt now) : s.Ordered :=
  ⟨⟨h.inputSorted, fun ev hev =>
      have hlater := h.inputLater ev hev
      ⟨h.pulse.trans hlater, h.start.trans hlater, h.runEnd.trans hlater⟩⟩, h.buffer, h.run, h.records⟩

/-- Taking an event makes its position the present one. -/
theorem State.Ordered.consume {s : State} {ev : Event} {rest : List Event} (h : s.Ordered) (hi : s.input = ev :: rest) :
    s.consume.OrderedAt ev.pos := by
  obtain ⟨⟨hsorted, hheld⟩, hbuffer, hrun, hrecords⟩ := h
  obtain ⟨hpulse, hstart, hend⟩ := hheld ev (by simp [hi])
  rw [hi, List.pairwise_cons] at hsorted
  rw [consume_of_input hi]
  exact ⟨hsorted.2, hsorted.1, hpulse, hstart, hend, hbuffer, hrun, hrecords⟩

section OrderedAt

variable {s : State} {now : Nat}

theorem State.OrderedAt.clockRise (h : s.OrderedAt now) (data : Bool) : (s.clockRise data now).OrderedAt now := by
  rcases clockRise_cases s data now with ⟨_, heq⟩ | ⟨_, heq⟩ <;> rw [heq]
  · exact { h with pulse := le_rfl, start := le_rfl, buffer := ⟨.nil, nofun⟩ }
  · obtain ⟨hsorted, hle⟩ := h.buffer
    exact { h with pulse := le_rfl, buffer := ⟨hsorted, fun e he => (hle e he).trans h.pulse⟩ }

theorem State.OrderedAt.acceptPulse (h : s.OrderedAt now) (dv dir : Bool) : (s.acceptPulse dv dir now).OrderedAt now := by
  obtain ⟨hsorted, hle⟩ := h.buffer
  have hbuffer : s.fbAppended.Pairwise (fun a b => a.pos ≤ b.pos) ∧ ∀ e ∈ s.fbAppended, e.pos ≤ s.pulseStart := by
    refine ⟨List.Pairwise.drop (List.pairwise_append.mpr ⟨hsorted, List.pairwise_singleton .., ?_⟩), fun e he => ?_⟩
    · intro e he last hlast
      rw [List.mem_singleton.mp hlast]
      exact hle e he
    · rcases State.mem_fbAppended he with he | rfl
      · exact hle e he
      · exact le_rfl
  have hpulse {b : Bool} {body : RecordBody} : ∀ r ∈ recordsIf b [s.pulseRecord now body], r.ss ≤ r.es := by
    intro r hr
    rw [List.mem_singleton.mp (mem_recordsIf.mp hr).2]
    exact h.pulse
  rw [acceptPulse_eq]
  exact { h with
    buffer := hbuffer
    records := List.forall_mem_append.mpr ⟨List.forall_mem_append.mpr ⟨h.records, hpulse⟩, hpulse⟩ }

theorem State.OrderedAt.frameRecord (h : s.OrderedAt now) (body : RecordBody) :
    (s.frameRecord now body).ss ≤ (s.frameRecord now body).es := h.start

/-- The positions of a buffer in order do not decrease with the entry's number. -/
theorem State.OrderedAt.fbPos_mono (h : s.OrderedAt now) {i j : Nat} (hij : i < j) (hj : j < s.fb.length) :
    s.fbPos i ≤ s.fbPos j := by
  rw [fbPos_of_lt (hij.trans hj), fbPos_of_lt hj]
  exact List.pairwise_iff_getElem.mp h.buffer.1 i j (hij.trans hj) hj hij

theorem State.OrderedAt.spanRecord (h : s.OrderedAt now) (hfull : s.fb.length = 12) {lo hi : Nat} (hlo : lo ≤ hi)
    (hlt : lo < 12) (body : RecordBody) : (s.spanRecord lo hi now body).ss ≤ (s.spanRecord lo hi now body).es := by
  change s.fbPos lo ≤ s.spanEnd hi now
  unfold State.spanEnd
  split
  · exact h.fbPos_mono (by omega) (by omega)
  · have hle : s.fbPos lo ≤ s.pulseStart := by
      rw [fbPos_of_lt (by omega)]
      exact h.buffer.2 _ (List.getElem_mem _)
    exact hle.trans h.pulse

theorem State.OrderedAt.controlHead (h : s.OrderedAt now) : ∀ r ∈ controlHead s now, r.ss ≤ r.es := by
  refine List.forall_mem_cons.mpr ⟨h.frameRecord _, fun r hr => ?_⟩
  obtain ⟨hopen, hr⟩ := mem_recordsIf.mp hr
  rw [List.mem_singleton.mp hr]
  exact h.run hopen

theorem State.OrderedAt.selRstRecords (h : s.OrderedAt now) (hfull : s.fb.length = 12) (sel : Bool) (addr : Addr) :
    ∀ r ∈ s.selRstRecords sel addr now, r.ss ≤ r.es := by
  simp only [State.selRstRecords, List.forall_mem_cons]
  exact ⟨h.frameRecord _, h.spanRecord hfull (by decide) (by decide) _, nofun⟩

theorem State.OrderedAt.sctlRecords (h : s.OrderedAt now) (hfull : s.fb.length = 12) (sm bw rw : Bool) (reg : RegNum) :
    ∀ r ∈ s.sctlRecords sm bw rw reg now, r.ss ≤ r.es := by
  have span {lo hi : Nat} (hlo : lo ≤ hi) (hlt : lo < 12) (body : RecordBody) := h.spanRecord hfull hlo hlt body
  simp only [State.sctlRecords, List.forall_mem_cons]
  exact ⟨h.frameRecord _, span (by decide) (by decide) _, span (by decide) (by decide) _, span (by decide) (by decide) _,
    span (by decide) (by decide) _, span (by decide) (by decide) _, nofun⟩

/-- Any Control frame: the run closed, its end kept, and the fields' records in order (R171, R214). -/
theorem State.OrderedAt.controlFrame (h : s.OrderedAt now) {rs : List Record} (hrs : ∀ r ∈ rs, r.ss ≤ r.es)
    (expect valid : Bool) (reg : RegNum) :
    State.OrderedAt
      { s with
        fb := [], ctx := { s.ctx.clearRun with expectAsic := expect, curRegValid := valid, curReg := reg }
        output := s.output ++ Machine.controlHead s now ++ rs } now := by
  have hclosed : s.ctx.clearRun.runOpen ≠ true := by simp
  have hend : s.ctx.clearRun.runEnd ≤ now := by
    rw [clearRun_runEnd]
    exact h.runEnd
  exact { h with
    runEnd := hend
    buffer := ⟨.nil, nofun⟩
    run := fun hopen => absurd hopen hclosed
    records := List.forall_mem_append.mpr ⟨List.forall_mem_append.mpr ⟨h.records, h.controlHead⟩, hrs⟩ }

theorem State.OrderedAt.dataFrame (h : s.OrderedAt now) (hfull : s.fb.length = 12) (value : ByteField) :
    (s.dataFrame value now).OrderedAt now := by
  have hrun : (if s.ctx.runOpen then s.ctx.runStart else s.frameStart) ≤ now := by
    split
    next hopen => exact (h.run hopen).trans h.runEnd
    next => exact h.start
  have hrecords : ∀ r ∈ [s.frameRecord now .dataFrame, s.spanRecord 3 10 now (s.dataChannel value)], r.ss ≤ r.es := by
    simp only [List.forall_mem_cons]
    exact ⟨h.frameRecord _, h.spanRecord hfull (by decide) (by decide) _, nofun⟩
  rw [dataFrame_eq, advanceRun_openRun]
  exact { h with
    runEnd := le_rfl
    buffer := ⟨.nil, nofun⟩
    run := fun _ => hrun
    records := List.forall_mem_append.mpr ⟨h.records, hrecords⟩ }

theorem State.OrderedAt.nullFrame (h : s.OrderedAt now) : (s.nullFrame now).OrderedAt now := by
  rw [nullFrame_eq]
  exact { h with records := List.forall_mem_append.mpr ⟨h.records, List.forall_mem_singleton.mpr le_rfl⟩ }

theorem State.OrderedAt.unclassifiedFrame (h : s.OrderedAt now) (raw : FrameWord) :
    (s.unclassifiedFrame raw now).OrderedAt now := by
  have hbuffer : State.bufferOrdered { s with fb := if s.dec = .search then s.fb else [] } := by
    by_cases hd : s.dec = .search
    · rw [if_pos hd]
      exact h.buffer
    · rw [if_neg hd]
      exact ⟨.nil, nofun⟩
  have hraw : ∀ r ∈ recordsIf s.opts.showDebug [s.frameRecord now (.rawFrame raw)], r.ss ≤ r.es := by
    intro r hr
    rw [List.mem_singleton.mp (mem_recordsIf.mp hr).2]
    exact h.frameRecord _
  rw [unclassifiedFrame_eq]
  exact { h with buffer := hbuffer, records := List.forall_mem_append.mpr ⟨h.records, hraw⟩ }

theorem State.OrderedAt.complete (h : s.OrderedAt now) (hfull : s.fb.length = 12) : (s.complete now).OrderedAt now := by
  rcases complete_cases s now with ⟨_, _, _, heq⟩ | ⟨_, _, _, heq⟩ | ⟨_, _, heq⟩ | ⟨_, heq⟩ | ⟨_, heq⟩ | ⟨_, heq⟩ <;>
    rw [heq]
  · rw [sresetFrame_eq]
    exact h.controlFrame (h.selRstRecords hfull _ _) _ _ _
  · rw [sselFrame_eq]
    exact h.controlFrame (h.selRstRecords hfull _ _) _ _ _
  · rw [sctlFrame_eq]
    exact h.controlFrame (h.sctlRecords hfull _ _ _ _) _ _ _
  · exact h.dataFrame hfull _
  · exact h.nullFrame
  · exact h.unclassifiedFrame _

theorem State.OrderedAt.clockFall (h : s.OrderedAt now) (dv dir : Bool) : (s.clockFall dv dir now).OrderedAt now := by
  rcases clockFall_cases s dv dir now with ⟨_, heq⟩ | ⟨_, _, heq⟩ | ⟨_, hlen, heq⟩ <;> rw [heq]
  · exact h
  · exact h.acceptPulse dv dir
  · have hfull : (s.acceptPulse dv dir now).fb.length = 12 := by
      rw [acceptPulse_length]
      omega
    exact (h.acceptPulse dv dir).complete hfull

end OrderedAt

/-- Settles O50: every effect of an event keeps what is held before the event's position and what is to come after it. -/
theorem stepKeepsPositionOrder : Obligations.StepKeepsPositionOrder := by
  intro s t hs h
  rcases step_cases h with ⟨_, rfl⟩ | ⟨ev, rest, hi, _⟩
  · exact hs
  · have hconsumed : s.consume.OrderedAt ev.pos := hs.consume hi
    cases stepEffect_of_step hi h with
    | nothing | leaveSkip | enterSkip => exact hconsumed.ordered
    | clockRise => exact (hconsumed.clockRise _).ordered
    | clockFall => exact (hconsumed.clockFall _ _).ordered

/-! ### Who writes `asic_flag` and `dec` (R24, R26, R176) -/

/-- Of the completed frames only a Data frame clears the flag (R172, R210). -/
theorem complete_eq_dataFrame_of_asicFlag {s : State} {endPos : Nat} (hset : s.asicFlag = true)
    (hclear : (s.complete endPos).asicFlag = false) : ∃ v, s.complete endPos = s.dataFrame v endPos := by
  rcases complete_cases s endPos with ⟨_, _, _, h⟩ | ⟨_, _, _, h⟩ | ⟨_, _, h⟩ | ⟨_, h⟩ | ⟨_, h⟩ | ⟨_, h⟩
  case inr.inr.inr.inl => exact ⟨_, h⟩
  all_goals simp [h, hset] at hclear

/-- Settles O26, by the instruction; the clock fall that clears the flag completes a Data frame, which reads it first. -/
theorem asicFlagClearedOnlyByDataFrame : Obligations.AsicFlagClearedOnlyByDataFrame := by
  intro i s t h hset hclear
  cases i with
  | data v e => exact .inl ⟨v, e, rfl⟩
  | evClkFall td d dv dir p =>
    have hmarked : (s.acceptPulse dv dir p).asicFlag = true := by simp [acceptPulse_eq, hset]
    obtain rfl : s.clockFall dv dir p = t := Host.Outcome.next.inj h
    rcases clockFall_cases s dv dir p with ⟨_, heq⟩ | ⟨_, _, heq⟩ | ⟨_, _, heq⟩ <;> rw [heq] at hclear ⊢
    · simp [hset] at hclear
    · simp [hmarked] at hclear
    · obtain ⟨v, hdata⟩ := complete_eq_dataFrame_of_asicFlag hmarked hclear
      rw [hdata]
      have hchannel : (s.acceptPulse dv dir p).dataChannel v = .dataAsic v := by simp [State.dataChannel, hmarked]
      refine .inr ⟨td, d, dv, dir, p, (s.acceptPulse dv dir p).spanRecord 3 10 p (.dataAsic v), rfl,
        State.dataFrame_fb .., ?_, ?_, v, rfl⟩
      · simp [dataFrame_eq, hchannel]
      · simp [dataFrame_eq, State.frameRecord]
  | _ =>
    cases h
    simp [hset] at hclear

/-- Settles O28, by the instruction; of the completed frames only a Null frame writes `dec`. -/
theorem decoderStateWrittenOnlyByStartAndNull : Obligations.DecoderStateWrittenOnlyByStartAndNull := by
  intro i s t h hne
  cases i with
  | null e =>
    cases h
    exact .inr ⟨rfl, e, by simp [nullFrame_eq], .inl rfl⟩
  | evClkRise td d dv dir p =>
    obtain rfl : s.clockRise d p = t := Host.Outcome.next.inj h
    rcases clockRise_cases s d p with ⟨hstart, heq⟩ | ⟨_, heq⟩ <;> rw [heq] at hne ⊢
    · exact .inl ⟨rfl, td, d, dv, dir, p, rfl, hstart.imp_left And.right⟩
    · exact absurd rfl hne
  | evClkFall td d dv dir p =>
    obtain rfl : s.clockFall dv dir p = t := Host.Outcome.next.inj h
    rcases clockFall_cases s dv dir p with ⟨_, heq⟩ | ⟨_, _, heq⟩ | ⟨_, hlen, heq⟩ <;> rw [heq] at hne ⊢
    · exact absurd rfl hne
    · exact absurd (State.acceptPulse_dec ..) hne
    · have hfull : (s.acceptPulse dv dir p).fb.length = 12 := by
        rw [acceptPulse_length]
        omega
      have hword : (s.acceptPulse dv dir p).frameWord = 0 := by
        rcases complete_fb_dec (s.acceptPulse dv dir p) p with ⟨_, hdec⟩ | ⟨_, hdec, hword | hsearch⟩
        · exact absurd (hdec.trans (State.acceptPulse_dec ..)) hne
        · exact hword
        · exact absurd (hdec.trans (hsearch.symm.trans (State.acceptPulse_dec ..))) hne
      rw [complete_of_word_zero hword]
      exact .inr ⟨rfl, p, by simp [nullFrame_eq], .inr ⟨td, d, dv, dir, rfl, hword, hfull⟩⟩
  | _ =>
    cases h
    simp at hne

/-! ### Zeros in a full buffer (R157, R160, R241) -/

/-- A full buffer is in SEARCH and holds zeros. -/
theorem State.Inv.search_of_full {s : State} (h : s.Inv) (hfull : s.fb.length = 12) :
    s.dec = .search ∧ s.curBit = false ∧ ∀ e ∈ s.fb, e.bit = false := by
  obtain ⟨_, hsearch, hnotFull, _⟩ := h
  have hdec : s.dec = .search := by
    cases hd : s.dec with
    | search => rfl
    | inFrame =>
      have := hnotFull hd
      omega
  exact ⟨hdec, hsearch hdec⟩

/-- A zero accepted after eleven zeros makes the all-zero frame word. -/
theorem acceptPulse_frameWord_zero {s : State} (hlen : 11 ≤ s.fb.length) (hfb : ∀ e ∈ s.fb, e.bit = false)
    (hbit : s.curBit = false) (dv dir : Bool) (pos : Nat) : (s.acceptPulse dv dir pos).frameWord = 0 := by
  have hfull : (s.acceptPulse dv dir pos).fb.length = 12 := by
    rw [acceptPulse_length]
    omega
  rw [frameWord_eq_zero_iff _ hfull, State.acceptPulse_fb]
  exact State.fbAppended_zeros hfb hbit

/-- Settles O27: I3 and I2 make the window all zeros, so that the slid window is a Null frame again. -/
theorem searchWindowSlidesAndRepeatsNull : Obligations.SearchWindowSlidesAndRepeatsNull := by
  intro s td d dv dir p hs hdec hfull hwidth
  obtain ⟨_, hbit, hzeros⟩ := hs.search_of_full hfull
  have hword : (s.acceptPulse dv dir p).frameWord = 0 := acceptPulse_frameWord_zero (by omega) hzeros hbit dv dir p
  have hwindow := State.fbAppended_of_full hfull
  change Host.Outcome.next (s.clockFall dv dir p) = _
  rcases clockFall_cases s dv dir p with ⟨hnarrow, _⟩ | ⟨_, hlt, _⟩ | ⟨_, _, heq⟩
  · rw [(narrowPulse_false_iff _ _).mpr hwidth] at hnarrow
    cases hnarrow
  · omega
  · rw [heq, complete_of_word_zero hword, nullFrame_eq, acceptPulse_eq, ← State.fbAppended, hwindow]
    simp [hdec, hfull, hbit, State.pulseRecord, recordsIf]

/-- An overflow happens to a full buffer only, whose word after the append is the Null frame's: A4 and A5 do not meet. -/
theorem acceptedNotes_length_le {s : State} (hs : s.Inv) (dv dir : Bool) (pos : Nat) :
    (s.acceptedNotes dv dir pos).length ≤ 1 := by
  unfold State.acceptedNotes
  rw [frameLen_eq]
  by_cases hover : s.fb.length + 1 > 12
  · have hbound : s.fb.length ≤ 12 := hs.1
    obtain ⟨_, hbit, hzeros⟩ := hs.search_of_full (by omega)
    have hnull := (classify_null_iff _).mpr (acceptPulse_frameWord_zero (by omega) hzeros hbit dv dir pos)
    simp [hover, hnull]
  · rw [if_neg hover, List.nil_append]
    split <;> simp

/-- Settles O43, by the instruction; only a clock fall has more than one anomaly it can note. -/
theorem atMostOneAnomalyNoted : Obligations.AtMostOneAnomalyNoted := by
  intro i s hs
  cases i with
  | evClkFall td d dv dir p =>
    change (if narrowPulse s.pulseStart p then [Anomaly.glitch] else s.acceptedNotes dv dir p).length ≤ 1
    split
    · exact Nat.le_refl 1
    · exact acceptedNotes_length_le hs dv dir p
  | _ => simp [noted]

/-! ### The start of a frame and its first bit (R23, R51 I4) -/

/-- I4 survives a clock fall that stores into an empty buffer only the position that marked the frame start. -/
theorem startIsFirstPosition_clockFall {s : State} {dv dir : Bool} {pos : Nat} (h : s.startIsFirstPosition)
    (hmarked : s.pulseIsMarked) : (s.clockFall dv dir pos).startIsFirstPosition := by
  rcases clockFall_cases s dv dir pos with ⟨_, heq⟩ | ⟨_, hlt, heq⟩ | ⟨_, _, heq⟩ <;> rw [heq]
  · exact h
  · rw [State.startIsFirstPosition, State.acceptPulse_dec, State.acceptPulse_frameStart, State.acceptPulse_fb,
      State.fbAppended_of_lt (by omega)]
    intro hd e he
    cases hfb : s.fb with
    | nil =>
      obtain rfl : Entry.mk s.curBit s.pulseStart = e := by simpa [hfb] using he
      exact hmarked hd hfb
    | cons first rest =>
      obtain rfl : first = e := by simpa [hfb] using he
      exact h hd first (by simp [hfb])
  · intro hd e he
    rcases complete_fb_dec (s.acceptPulse dv dir pos) pos with ⟨hfb, _⟩ | ⟨_, hdec, _⟩
    · simp [hfb] at he
    · rw [hdec] at hd
      cases hd

theorem startIsFirstPosition_clockRise {s : State} {data : Bool} {pos : Nat} (h : s.startIsFirstPosition) :
    (s.clockRise data pos).startIsFirstPosition := by
  rcases clockRise_cases s data pos with ⟨_, heq⟩ | ⟨_, heq⟩ <;> rw [heq]
  · nofun
  · exact h

/-- Settles O52, by the effects of an event; the invariants of R51 are not needed. -/
theorem frameStartIsFirstPositionForMarkedPulses : Obligations.FrameStartIsFirstPositionForMarkedPulses := by
  intro s t _ hfirst hmarked h
  rcases stepEffect_or_eq h with rfl | ⟨ev, _, heffect⟩
  · exact hfirst
  · have hfirst' : s.consume.startIsFirstPosition := hfirst
    have hmarked' : s.consume.pulseIsMarked := hmarked
    cases heffect with
    | nothing | leaveSkip | enterSkip => exact hfirst'
    | clockRise => exact startIsFirstPosition_clockRise hfirst'
    | clockFall => exact startIsFirstPosition_clockFall hfirst' hmarked'

/-- The frame 0x801, then a masked clock rise and the fall after it (log entry 13). -/
def maskedRiseStream : List Event :=
  frameEvents false 0 0x801 none ++ [bothEvent 98 true false none, fallEvent 102 false none]

/-- Refutes O53: the fall after the masked rise stores position 90, the frame's last pulse start, where the frame start is
still 2. -/
theorem not_frameStartIsFirstPositionWhenReachable : ¬ Obligations.FrameStartIsFirstPositionWhenReachable := by
  intro h
  have hwf : wellFormedStream false false false maskedRiseStream = true := by decide
  obtain ⟨t, hrun, hdec, hstart, hfb⟩ : ∃ t : State,
      Host.Core.run Sys2Proof.core 29 { State.reset with input := maskedRiseStream } = .next t ∧
        t.dec = .inFrame ∧ t.frameStart = 2 ∧ t.fb = [⟨true, 90⟩] := ⟨_, rfl, by decide, by decide, by decide⟩
  have hfirst := h maskedRiseStream 29 t hwf hrun hdec ⟨true, 90⟩ (by simp [hfb])
  rw [hstart] at hfirst
  cases hfirst

/-- Settles O48. -/
theorem resetHasEveryInvariant : Obligations.ResetHasEveryInvariant :=
  ⟨by decide, by decide, by decide, by decide, by decide⟩

/-! ### Realignment by zeros (R63(c), R173) -/

/-- ClockRise neither reads nor writes the input port. -/
theorem clockRise_consume (s : State) (data : Bool) (pos : Nat) :
    (s.clockRise data pos).consume = s.consume.clockRise data pos := by
  have hstart : (s.consume.sample data pos).startsFrame data = (s.sample data pos).startsFrame data := rfl
  simp only [State.clockRise, hstart]
  split <;> rfl

/-- The state after the rise at `t + 2` and the fall at `t + 6` of one pulse of the canonical expansion (R106). -/
def State.afterPulse (s : State) (b : Bool) (dir : Option Bool) (t : Nat) : State :=
  (s.clockRise b (t + 2)).clockFall dir.isSome (dir.getD false) (t + 6)

/-- The events of one pulse, taken in the observing state: the change of the data level before it does nothing. -/
theorem run_pulseEvents {s : State} {prev b : Bool} {t : Nat} {dir : Option Bool} {rest : List Event}
    (hc : s.cls = .observe) (hi : s.input = pulseEvents prev t b dir ++ rest) :
    Host.Core.run Sys2Proof.core (pulseEvents prev t b dir).length s =
      .next (State.afterPulse { s with input := rest } b dir t) := by
  have pulse {u : State} (hu : u.cls = .observe)
      (hin : u.input = [riseEvent (t + 2) b dir, fallEvent (t + 6) b dir] ++ rest) :
      Host.Core.run Sys2Proof.core 2 u = .next (State.afterPulse { u with input := rest } b dir t) := by
    have hfall : (u.consume.clockRise b (t + 2)).input = fallEvent (t + 6) b dir :: rest := by simp [hin]
    have hrest : u.consume.consume = { u with input := rest } := by simp [State.consume, hin]
    rw [run_succ_of_step 1 (step_rise hu hin), run_succ_of_step 0 (step_fall (by simpa using hu) hfall), run_zero,
      clockRise_consume, hrest, State.afterPulse]
  by_cases hb : b = prev
  · simp only [pulseEvents, hb, bne_self_eq_false, Bool.false_eq_true, if_false, List.nil_append] at hi ⊢
    subst hb
    exact pulse hc hi
  · simp only [pulseEvents, bne_iff_ne.mpr hb, if_true] at hi ⊢
    exact (run_succ_of_step 2 (step_dset hc hi)).trans (pulse hc (by simp [hi]))

/-- Twelve zeros will be held after `k` zero pulses more: zeros alone are held, or the frame in progress is complete in time
for twelve zeros after it. -/
def State.AlignsIn (k : Nat) (s : State) : Prop :=
  s.Inv ∧ (((∀ e ∈ s.fb, e.bit = false) ∧ 12 ≤ s.fb.length + k) ∨ 24 ≤ s.fb.length + k)

theorem alignsIn_twentyThree {s : State} (h : s.Inv) : s.AlignsIn 23 := by
  refine ⟨h, ?_⟩
  cases hfb : s.fb with
  | nil => exact .inl ⟨nofun, by decide⟩
  | cons e rest => exact .inr (by simp only [List.length_cons]; omega)

/-- With nothing left to wait for, I1 leaves twelve zeros. -/
theorem State.AlignsIn.aligned {s : State} (h : s.AlignsIn 0) : s.dec = .search ∧ s.fb.length = 12 ∧ s.frameWord = 0 := by
  obtain ⟨hinv, hcount⟩ := h
  have hbound : s.fb.length ≤ 12 := hinv.1
  have hfull : s.fb.length = 12 := by omega
  obtain ⟨hdec, _, hzeros⟩ := hinv.search_of_full hfull
  exact ⟨hdec, hfull, (frameWord_eq_zero_iff s hfull).mpr hzeros⟩

/-- The rise of a zero keeps the buffer: a start condition with a zero needs an empty one (R151). -/
theorem clockRise_zero_fb (s : State) (pos : Nat) : (s.clockRise false pos).fb = s.fb := by
  rcases clockRise_cases s false pos with ⟨hstart, h⟩ | ⟨_, h⟩ <;> rw [h]
  · have hempty : s.fb = [] := by simpa using hstart
    simp [hempty]
  · rfl

/-- A zero accepted brings the alignment one pulse nearer: it is appended, or it completes a frame, which leaves an empty
buffer or twelve zeros. -/
theorem alignsIn_acceptZero {s : State} {k : Nat} {dv dir : Bool} {pos : Nat} (h : s.AlignsIn (k + 1))
    (hbit : s.curBit = false) (hwidth : s.pulseStart + 2 ≤ pos) : (s.clockFall dv dir pos).AlignsIn k := by
  obtain ⟨hinv, hcount⟩ := h
  have hbound : s.fb.length ≤ 12 := hinv.1
  have hinv' : (s.clockFall dv dir pos).Inv := inv_clockFall hinv
  have hlen := acceptPulse_length s dv dir pos
  refine ⟨hinv', ?_⟩
  rcases clockFall_cases s dv dir pos with ⟨hnarrow, _⟩ | ⟨_, hlt, heq⟩ | ⟨_, hge, heq⟩
  · rw [(narrowPulse_false_iff _ _).mpr hwidth] at hnarrow
    cases hnarrow
  · rw [heq, hlen]
    refine hcount.imp (fun ⟨hzeros, _⟩ => ⟨?_, by omega⟩) (fun _ => by omega)
    rw [State.acceptPulse_fb]
    exact State.fbAppended_zeros hzeros hbit
  · rw [heq] at hinv' ⊢
    have hfull : (s.acceptPulse dv dir pos).fb.length = 12 := by omega
    rcases complete_fb_dec (s.acceptPulse dv dir pos) pos with ⟨hfb, _⟩ | ⟨hfb, _⟩
    · have hnot : ¬ ∀ e ∈ s.fb, e.bit = false := by
        intro hzeros
        rw [complete_of_word_zero (acceptPulse_frameWord_zero hge hzeros hbit dv dir pos), State.nullFrame_fb] at hfb
        rw [hfb] at hfull
        cases hfull
      have hpartial : s.fb.length ≠ 12 := fun h12 => hnot (hinv.search_of_full h12).2.2
      have hleft : 12 ≤ k := by
        rcases hcount with ⟨hzeros, _⟩ | hcount
        · exact absurd hzeros hnot
        · omega
      exact .inl ⟨by simp [hfb], by omega⟩
    · have hfull' := (congrArg List.length hfb).trans hfull
      exact .inl ⟨(hinv'.search_of_full hfull').2.2, by omega⟩

theorem State.AlignsIn.afterPulse {s : State} {k : Nat} (h : s.AlignsIn (k + 1)) (t : Nat) :
    (s.afterPulse false none t).AlignsIn k := by
  obtain ⟨hinv, hcount⟩ := h
  have hrise : (s.clockRise false (t + 2)).AlignsIn (k + 1) := ⟨inv_clockRise hinv, by rwa [clockRise_zero_fb]⟩
  exact alignsIn_acceptZero hrise (by simp) (by simp)

/-- `ZEROS k` (R107) leads to twelve zeros held where `k` zero pulses do. -/
theorem run_zeroEvents {s : State} {prev : Bool} {t k : Nat} {rest : List Event} (h : s.AlignsIn k) (hc : s.cls = .observe)
    (hi : s.input = zeroEvents prev t k ++ rest) :
    ∃ u, Host.Core.run Sys2Proof.core (zeroEvents prev t k).length s = .next u ∧ u.AlignsIn 0 ∧ u.input = rest := by
  induction k generalizing s prev t with
  | zero => exact ⟨s, rfl, h, hi⟩
  | succ k ih =>
    have hsplit : zeroEvents prev t (k + 1) = pulseEvents prev t false none ++ zeroEvents false (t + 8) k := rfl
    rw [hsplit, List.append_assoc] at hi
    rw [hsplit, List.length_append, run_add _ _ (run_pulseEvents hc hi)]
    have htaken : State.AlignsIn (k + 1) { s with input := zeroEvents false (t + 8) k ++ rest } := h
    exact ih (htaken.afterPulse t) (by simpa [State.afterPulse] using hc) (by simp [State.afterPulse])

/-- Settles O55: one bit held needs eleven zeros to complete its frame and twelve more for a Null frame. -/
theorem twentyThreeZerosReachSearch : Obligations.TwentyThreeZerosReachSearch := by
  intro s prev t rest hs hc hi
  obtain ⟨u, hrun, haligned, hrest⟩ := run_zeroEvents (alignsIn_twentyThree hs) hc hi
  obtain ⟨hdec, hfull, hword⟩ := haligned.aligned
  exact ⟨u, hrun, hdec, hfull, hword, hrest⟩

end Sys2Proof.Machine
end

section
/-!
PROOFS. The memory family: the output stream (R70, R100). `AppendsAtMost` says that an operation only adds records, and how
many; an accepted pulse adds two at most and the frame it completes eight at most.
-/

namespace Sys2Proof.Machine

/-- `t` has every record of `s`, in the same order, and after them at most `n` more. -/
def AppendsAtMost (n : Nat) (s t : State) : Prop :=
  ∃ rs, t.output = s.output ++ rs ∧ rs.length ≤ n

theorem AppendsAtMost.trans {m n : Nat} {s t u : State} (h : AppendsAtMost m s t) (h' : AppendsAtMost n t u) :
    AppendsAtMost (m + n) s u := by
  obtain ⟨rs, hrs, hm⟩ := h
  obtain ⟨rs', hrs', hn⟩ := h'
  exact ⟨rs ++ rs', by rw [hrs', hrs, List.append_assoc], by rw [List.length_append]; omega⟩

theorem AppendsAtMost.mono {m n : Nat} {s t : State} (h : AppendsAtMost m s t) (hmn : m ≤ n) : AppendsAtMost n s t := by
  obtain ⟨rs, hrs, hm⟩ := h
  exact ⟨rs, hrs, hm.trans hmn⟩

/-- CLK and BIT (R152, R155). -/
theorem acceptPulse_appendsAtMost (s : State) (dv dir : Bool) (pos : Nat) :
    AppendsAtMost 2 s (s.acceptPulse dv dir pos) := by
  have hclk := recordsIf_length_le s.opts.showClk [s.pulseRecord pos .clk]
  have hbit := recordsIf_length_le s.opts.showBit [s.pulseRecord pos (.bit s.curBit)]
  rw [acceptPulse_eq]
  exact ⟨_, List.append_assoc .., by rw [List.length_append]; exact Nat.add_le_add hclk hbit⟩

/-- CTRL_FRAME and the record of the run it closes (R171). -/
theorem controlHead_length_le (s : State) (endPos : Nat) : (controlHead s endPos).length ≤ 2 :=
  Nat.succ_le_succ (recordsIf_length_le s.ctx.runOpen [s.ctx.runRecord])

/-- A Control frame's records are two at most before those of its fields (R171). -/
theorem appendsAtMost_of_controlHead {s t : State} {endPos n : Nat} {rs : List Record}
    (h : t.output = s.output ++ controlHead s endPos ++ rs) (hrs : rs.length ≤ n) : AppendsAtMost (2 + n) s t :=
  ⟨controlHead s endPos ++ rs, by rw [h, List.append_assoc],
    by rw [List.length_append]; exact Nat.add_le_add (controlHead_length_le s endPos) hrs⟩

/-- The frame with the most records is a SCTL frame that closes a run: eight (R100, R171, R193). -/
theorem complete_appendsAtMost (s : State) (endPos : Nat) : AppendsAtMost 8 s (s.complete endPos) := by
  rcases complete_cases s endPos with ⟨_, _, _, h⟩ | ⟨_, _, _, h⟩ | ⟨_, _, h⟩ | ⟨_, h⟩ | ⟨_, h⟩ | ⟨_, h⟩ <;> rw [h]
  · exact (appendsAtMost_of_controlHead (congrArg State.output (sresetFrame_eq ..)) (Nat.le_refl 2)).mono (by decide)
  · exact (appendsAtMost_of_controlHead (congrArg State.output (sselFrame_eq ..)) (Nat.le_refl 2)).mono (by decide)
  · exact appendsAtMost_of_controlHead (congrArg State.output (sctlFrame_eq ..)) (Nat.le_refl 6)
  · exact ⟨_, by rw [dataFrame_eq], by simp⟩
  · exact ⟨_, by rw [nullFrame_eq], by simp⟩
  · refine ⟨_, by rw [unclassifiedFrame_eq], ?_⟩
    exact (recordsIf_length_le _ _).trans (by simp)

/-- A clock fall emits only when its pulse is wide enough, and at most the pulse's records and a frame's (R152, R153). -/
theorem clockFall_eq_or_appendsAtMost (s : State) (dv dir : Bool) (pos : Nat) :
    s.clockFall dv dir pos = s ∨ (s.pulseStart + 2 ≤ pos ∧ AppendsAtMost 10 s (s.clockFall dv dir pos)) := by
  have haccept := acceptPulse_appendsAtMost s dv dir pos
  rcases clockFall_cases s dv dir pos with ⟨_, heq⟩ | ⟨hwide, _, heq⟩ | ⟨hwide, _, heq⟩
  · exact .inl heq
  · rw [heq]
    exact .inr ⟨(narrowPulse_false_iff _ _).mp hwide, haccept.mono (by decide)⟩
  · rw [heq]
    exact .inr ⟨(narrowPulse_false_iff _ _).mp hwide, haccept.trans (complete_appendsAtMost _ pos)⟩

/-- An event that is no accepted clock fall emits nothing (R70, R130). -/
theorem StepEffect.output_cases {s t : State} {ev : Event} (h : StepEffect s ev t) :
    t.output = s.output ∨
      (s.cls = .observe ∧ ev.tc = true ∧ ev.clk = false ∧ s.pulseStart + 2 ≤ ev.pos ∧ AppendsAtMost 10 s t) := by
  cases h with
  | nothing | leaveSkip | enterSkip => exact .inl rfl
  | clockRise => exact .inl (State.clockRise_output ..)
  | clockFall hcls htc hclk =>
    rcases clockFall_eq_or_appendsAtMost s.consume ev.dv ev.dir ev.pos with heq | ⟨hwide, happends⟩
    · exact .inl ((congrArg State.output heq).trans (State.consume_output s))
    · exact .inr ⟨hcls, htc, hclk, hwide, happends⟩

/-- Settles O41, by what each effect of an event does to the output stream. -/
theorem stepAppendsAtMostTenRecords : Obligations.StepAppendsAtMostTenRecords := by
  intro s t h
  have quiet (hout : t.output = s.output) {P : Prop} :
      ∃ rs, t.output = s.output ++ rs ∧ rs.length ≤ 10 ∧ (rs ≠ [] → P) :=
    ⟨[], by rw [hout, List.append_nil], Nat.zero_le _, fun hne => absurd rfl hne⟩
  rcases step_cases h with ⟨_, rfl⟩ | ⟨ev, rest, hi, _⟩
  · exact quiet rfl
  · rcases (stepEffect_of_step hi h).output_cases with hout | ⟨hcls, htc, hclk, hwide, rs, hrs, hlen⟩
    · exact quiet hout
    · exact ⟨rs, hrs, hlen, fun _ => ⟨ev, rest, hi, hcls, htc, hclk, hwide⟩⟩

end Sys2Proof.Machine
end

section
/-!
PROOFS. The encoding family: the event codes and the frame rows (R91, R102), the encoder and the decoder as inverses of each
other (R103, R105, R196), table words (log entry 9), and the streams of a frame's canonical expansion, of a placed table word
and of the edge detector (R106, R158, D2). `FrameRow` says once which bits of a frame word select which instruction.
-/

namespace Sys2Proof

/-! ### The frame rows (R101, R102, R170, R190) -/

/-- The row of a frame word, by its bits, with the instruction it decodes to. -/
inductive FrameRow (w : FrameWord) (endPos : Nat) : Instr → Prop
  | sreset (h0 : w.getLsbD 0 = true) (h1 : w.getLsbD 1 = false) (h9 : w.getLsbD 9 = false) (h10 : w.getLsbD 10 = false) :
      FrameRow w endPos (.sreset (addrField w) endPos)
  | ssel (h0 : w.getLsbD 0 = true) (h1 : w.getLsbD 1 = false) (h9 : w.getLsbD 9 = true) (h10 : w.getLsbD 10 = false) :
      FrameRow w endPos (.ssel (addrField w) endPos)
  | sctl (h0 : w.getLsbD 0 = true) (h1 : w.getLsbD 1 = false) (h10 : w.getLsbD 10 = true) :
      FrameRow w endPos (.sctl (smField w) (bwField w) (rwField w) (regField w) endPos)
  | data (h0 : w.getLsbD 0 = true) (h1 : w.getLsbD 1 = true) : FrameRow w endPos (.data (byteField w) endPos)
  | null (h : w = 0) : FrameRow w endPos (.null endPos)
  | unclassified (h0 : w.getLsbD 0 = false) (h : w ≠ 0) : FrameRow w endPos (.unclassified w endPos)

variable {w v : FrameWord} {e : Nat}

theorem classify_of_control (h0 : w.getLsbD 0 = true) (h1 : w.getLsbD 1 = false) : classify w = .control := by
  rw [classify, h0, h1]
  rfl

theorem classify_of_data (h0 : w.getLsbD 0 = true) (h1 : w.getLsbD 1 = true) : classify w = .data := by
  rw [classify, h0, h1]
  rfl

theorem classify_of_unclassified (h0 : w.getLsbD 0 = false) (h : w ≠ 0) : classify w = .unclassified := by
  rw [classify, h0]
  exact if_neg h

/-- No word belongs to two rows: the instruction of a word's row is the one it decodes to. -/
theorem FrameRow.decodeFrame_eq {i : Instr} (h : FrameRow w e i) : decodeFrame w e = i := by
  cases h with
  | sreset h0 h1 h9 h10 =>
    simp only [decodeFrame, classify_of_control h0 h1, decodeControl, discField, selField, h9, h10, Bool.false_eq_true,
      if_false]
  | ssel h0 h1 h9 h10 =>
    simp only [decodeFrame, classify_of_control h0 h1, decodeControl, discField, selField, h9, h10, Bool.false_eq_true,
      if_false, if_true]
  | sctl h0 h1 h10 => simp only [decodeFrame, classify_of_control h0 h1, decodeControl, discField, h10, if_true]
  | data h0 h1 => simp only [decodeFrame, classify_of_data h0 h1]
  | null h =>
    subst h
    rfl
  | unclassified h0 h => simp only [decodeFrame, classify_of_unclassified h0 h]

/-- Every word belongs to a row (R103). -/
theorem frameRow_decodeFrame (w : FrameWord) (e : Nat) : FrameRow w e (decodeFrame w e) := by
  have row {i : Instr} (h : FrameRow w e i) : FrameRow w e (decodeFrame w e) := h.decodeFrame_eq ▸ h
  cases h0 : w.getLsbD 0 with
  | false =>
    by_cases h : w = 0
    · exact row (.null h)
    · exact row (.unclassified h0 h)
  | true =>
    cases h1 : w.getLsbD 1 with
    | true => exact row (.data h0 h1)
    | false =>
      cases h10 : w.getLsbD 10 with
      | true => exact row (.sctl h0 h1 h10)
      | false =>
        cases h9 : w.getLsbD 9 with
        | true => exact row (.ssel h0 h1 h9 h10)
        | false => exact row (.sreset h0 h1 h9 h10)

theorem decodeFrame_eq_iff {i : Instr} : decodeFrame w e = i ↔ FrameRow w e i :=
  ⟨fun h => h ▸ frameRow_decodeFrame w e, FrameRow.decodeFrame_eq⟩

/-- A word agrees with a row's fixed bits bit by bit. -/
theorem and_mask_eq_iff (w mask row : FrameWord) :
    w &&& mask = row ↔ ∀ i < 12, (w.getLsbD i && mask.getLsbD i) = row.getLsbD i := by
  simp only [← BitVec.getLsbD_and]
  exact ⟨fun h i _ => by rw [h], fun h => BitVec.eq_of_getLsbD_eq h⟩

theorem and_sresetMask_iff : w &&& 0x603 = 0x001 ↔
    w.getLsbD 0 = true ∧ w.getLsbD 1 = false ∧ w.getLsbD 9 = false ∧ w.getLsbD 10 = false := by
  rw [and_mask_eq_iff]
  simp only [Nat.forall_lt_succ_right]
  simp [and_assoc]

theorem and_sselMask_iff : w &&& 0x603 = 0x201 ↔
    w.getLsbD 0 = true ∧ w.getLsbD 1 = false ∧ w.getLsbD 9 = true ∧ w.getLsbD 10 = false := by
  rw [and_mask_eq_iff]
  simp only [Nat.forall_lt_succ_right]
  simp [and_assoc]

theorem and_sctlMask_iff : w &&& 0x403 = 0x401 ↔
    w.getLsbD 0 = true ∧ w.getLsbD 1 = false ∧ w.getLsbD 10 = true := by
  rw [and_mask_eq_iff]
  simp only [Nat.forall_lt_succ_right]
  simp [and_assoc]

theorem and_dataMask_iff : w &&& 0x003 = 0x003 ↔ w.getLsbD 0 = true ∧ w.getLsbD 1 = true := by
  rw [and_mask_eq_iff]
  simp only [Nat.forall_lt_succ_right]
  simp

theorem and_firstBitMask_iff : w &&& 0x001 = 0x000 ↔ w.getLsbD 0 = false := by
  rw [and_mask_eq_iff]
  simp only [Nat.forall_lt_succ_right]
  simp

theorem and_nullMask (w : FrameWord) : w &&& 0xFFF = w := BitVec.and_allOnes

/-- The rows' masks and matches are the bits `FrameRow` names. -/
theorem decodeFrame_row_iff (w : FrameWord) (e : Nat) :
    ((∃ a, decodeFrame w e = .sreset a e) ↔ w &&& 0x603 = 0x001) ∧
      ((∃ a, decodeFrame w e = .ssel a e) ↔ w &&& 0x603 = 0x201) ∧
      ((∃ sm bw rw r, decodeFrame w e = .sctl sm bw rw r e) ↔ w &&& 0x403 = 0x401) ∧
      ((∃ v, decodeFrame w e = .data v e) ↔ w &&& 0x003 = 0x003) ∧
      (decodeFrame w e = .null e ↔ w &&& 0xFFF = 0x000) ∧
      (decodeFrame w e = .unclassified w e ↔ w &&& 0x001 = 0x000 ∧ w ≠ 0) := by
  simp only [decodeFrame_eq_iff, and_sresetMask_iff, and_sselMask_iff, and_sctlMask_iff, and_dataMask_iff, and_nullMask,
    and_firstBitMask_iff]
  refine ⟨⟨?_, ?_⟩, ⟨?_, ?_⟩, ⟨?_, ?_⟩, ⟨?_, ?_⟩, ⟨?_, .null⟩, ?_, ?_⟩
  · exact fun ⟨_, .sreset h0 h1 h9 h10⟩ => ⟨h0, h1, h9, h10⟩
  · exact fun ⟨h0, h1, h9, h10⟩ => ⟨_, .sreset h0 h1 h9 h10⟩
  · exact fun ⟨_, .ssel h0 h1 h9 h10⟩ => ⟨h0, h1, h9, h10⟩
  · exact fun ⟨h0, h1, h9, h10⟩ => ⟨_, .ssel h0 h1 h9 h10⟩
  · exact fun ⟨_, _, _, _, .sctl h0 h1 h10⟩ => ⟨h0, h1, h10⟩
  · exact fun ⟨h0, h1, h10⟩ => ⟨_, _, _, _, .sctl h0 h1 h10⟩
  · exact fun ⟨_, .data h0 h1⟩ => ⟨h0, h1⟩
  · exact fun ⟨h0, h1⟩ => ⟨_, .data h0 h1⟩
  · exact fun (.null h) => h
  · exact fun (.unclassified h0 h) => ⟨h0, h⟩
  · exact fun ⟨h0, h⟩ => .unclassified h0 h

/-! ### How many words a row has (R102) -/

theorem countP_range_two_mul (p : Nat → Bool) (n : Nat) :
    (List.range (2 * n)).countP p =
      (List.range n).countP (fun i => p (2 * i)) + (List.range n).countP (fun i => p (2 * i + 1)) := by
  induction n with
  | zero => rfl
  | succ n ih =>
    simp only [Nat.mul_succ, List.range_succ, List.countP_append, List.countP_singleton, ih]
    omega

/-- How many numbers of `k` bits agree with the fixed bits `row` under `mask`, from the lowest bit up: a bit the mask fixes
leaves one choice, a free bit two. -/
def matchCount : Nat → Nat → Nat → Nat
  | 0, _, row => if row = 0 then 1 else 0
  | k + 1, mask, row =>
    if mask % 2 = 1 then matchCount k (mask / 2) (row / 2)
    else if row % 2 = 1 then 0
    else 2 * matchCount k (mask / 2) (row / 2)

theorem countP_and_mask (k mask row : Nat) :
    (List.range (2 ^ k)).countP (fun n => n &&& mask == row) = matchCount k mask row := by
  induction k generalizing mask row with
  | zero => cases row <;> simp [matchCount, List.range_one]
  | succ k ih =>
    have even (i : Nat) : (2 * i &&& mask) = row ↔ row % 2 = 0 ∧ (i &&& mask / 2) = row / 2 := by
      have h1 := Nat.and_div_two (a := 2 * i) (b := mask)
      have h2 := Nat.and_mod_two_eq_one (a := 2 * i) (b := mask)
      rw [Nat.mul_div_cancel_left _ (by decide : 0 < 2)] at h1
      omega
    have odd (i : Nat) : (2 * i + 1 &&& mask) = row ↔ row % 2 = mask % 2 ∧ (i &&& mask / 2) = row / 2 := by
      have h1 := Nat.and_div_two (a := 2 * i + 1) (b := mask)
      have h2 := Nat.and_mod_two_eq_one (a := 2 * i + 1) (b := mask)
      have h3 : (2 * i + 1) / 2 = i := by omega
      rw [h3] at h1
      omega
    rw [Nat.pow_succ', countP_range_two_mul]
    simp only [Bool.beq_eq_decide_eq, even, odd, matchCount, ← ih]
    rcases Nat.mod_two_eq_zero_or_one row with hr | hr <;> rcases Nat.mod_two_eq_zero_or_one mask with hm | hm <;>
      simp [hr, hm, Nat.two_mul]

/-- The words that agree with a row's fixed bits, counted. -/
theorem countP_word_and_mask (mask row : FrameWord) :
    (List.range 4096).countP (fun n => BitVec.ofNat 12 n &&& mask == row) = matchCount 12 mask.toNat row.toNat := by
  rw [← countP_and_mask]
  refine List.countP_congr fun n hn => ?_
  have hn : n < 4096 := List.mem_range.mp hn
  simp [← BitVec.toNat_inj, Nat.mod_eq_of_lt hn]

/-- The zero word is the one word of the null row. -/
theorem countP_word_zero : (List.range 4096).countP (fun n => BitVec.ofNat 12 n == 0) = 1 := by
  have h := countP_word_and_mask 0xFFF 0
  simp only [and_nullMask] at h
  exact h

theorem countP_and_not {l : List Nat} {p q : Nat → Bool} {a b : Nat} (hp : l.countP p = a)
    (hpq : l.countP (fun n => p n && q n) = b) : l.countP (fun n => p n && !q n) = a - b := by
  rw [← hp, ← hpq, List.countP_eq_countP_filter_add l p q, List.countP_filter, List.countP_filter,
    Nat.add_sub_cancel_left]

/-- The zero word apart, half of the words have first bit 0. -/
theorem countP_word_unclassified :
    (List.range 4096).countP (fun n => BitVec.ofNat 12 n &&& 0x001 == 0 && BitVec.ofNat 12 n != 0) = 2047 := by
  refine countP_and_not (countP_word_and_mask 0x001 0) ((List.countP_congr fun n _ => ?_).trans countP_word_zero)
  rw [Bool.and_eq_true, and_iff_right_iff_imp, beq_iff_eq, beq_iff_eq]
  intro h
  rw [h]
  rfl

/-- Settles O9, by the bits of each row and by counting the choices a mask leaves. -/
theorem frameRowsPartitionWords : Obligations.FrameRowsPartitionWords :=
  ⟨decodeFrame_row_iff, countP_word_and_mask 0x603 0x001, countP_word_and_mask 0x603 0x201,
    countP_word_and_mask 0x403 0x401, countP_word_and_mask 0x003 0x003, countP_word_zero, countP_word_unclassified⟩

/-! ### The fields of a frame word (R101, R103) -/

/-- A field is a slice of the word, as a number (R101). -/
theorem toNat_extractLsb' (w : FrameWord) (lo n : Nat) : (w.extractLsb' lo n).toNat = w.toNat / 2 ^ lo % 2 ^ n := by
  rw [BitVec.extractLsb'_toNat, Nat.shiftRight_eq_div_pow]

/-- Settles O10, by the row the word's bits select. -/
theorem fieldsAreSlicesOfFrameWord : Obligations.FieldsAreSlicesOfFrameWord := by
  intro w e h0
  refine ⟨fun h1 => ?_, fun h1 h10 h9 => ?_, fun h1 h10 h9 => ?_, fun h1 h10 => ?_⟩
  · exact ⟨_, (FrameRow.data h0 h1).decodeFrame_eq, toNat_extractLsb' w 3 8⟩
  · exact ⟨_, (FrameRow.sreset h0 h1 h9 h10).decodeFrame_eq, toNat_extractLsb' w 3 6⟩
  · exact ⟨_, (FrameRow.ssel h0 h1 h9 h10).decodeFrame_eq, toNat_extractLsb' w 3 6⟩
  · exact ⟨_, (FrameRow.sctl h0 h1 h10).decodeFrame_eq, toNat_extractLsb' w 3 4⟩

/-- Words that agree on the bits of a field agree on the field. -/
theorem extractLsb'_congr {lo n : Nat} (h : ∀ k, lo ≤ k → k < lo + n → w.getLsbD k = v.getLsbD k) :
    w.extractLsb' lo n = v.extractLsb' lo n := by
  apply BitVec.eq_of_getLsbD_eq
  intro i hi
  rw [BitVec.getLsbD_extractLsb', BitVec.getLsbD_extractLsb', h _ (by omega) (by omega)]

/-- Settles O12: the row of a word with first bit 1 and its fields are read from bits other than 2 and 11. -/
theorem frameBitsTwoAndElevenIgnored : Obligations.FrameBitsTwoAndElevenIgnored := by
  intro w v e hfirst hagree
  have same (k : Nat) : k < 12 ∧ k ≠ 2 ∧ k ≠ 11 → w.getLsbD k = v.getLsbD k :=
    fun ⟨hk, h2, h11⟩ => hagree k hk h2 h11
  have field (n : Nat) (hn : n ≤ 8) : w.extractLsb' 3 n = v.extractLsb' 3 n :=
    extractLsb'_congr fun k _ _ => same k (by omega)
  have row := frameRow_decodeFrame w e
  generalize decodeFrame w e = i at row
  symm
  rw [decodeFrame_eq_iff]
  cases row with
  | sreset h0 h1 h9 h10 =>
    rw [same _ (by decide)] at h0 h1 h9 h10
    rw [addrField, field 6 (by decide)]
    exact .sreset h0 h1 h9 h10
  | ssel h0 h1 h9 h10 =>
    rw [same _ (by decide)] at h0 h1 h9 h10
    rw [addrField, field 6 (by decide)]
    exact .ssel h0 h1 h9 h10
  | sctl h0 h1 h10 =>
    rw [same _ (by decide)] at h0 h1 h10
    rw [smField, bwField, rwField, regField, field 4 (by decide), same 7 (by decide), same 8 (by decide),
      same 9 (by decide)]
    exact .sctl h0 h1 h10
  | data h0 h1 =>
    rw [same _ (by decide)] at h0 h1
    rw [byteField, field 8 (by decide)]
    exact .data h0 h1
  | null h =>
    rw [h] at hfirst
    cases hfirst
  | unclassified h0 _ =>
    rw [h0] at hfirst
    cases hfirst

/-! ### The words of the encoder (R103, R105) -/

theorem getLsbD_placeField {n : Nat} (x : BitVec n) (lo i : Nat) :
    (placeField x lo).getLsbD i = (decide (i < 12) && decide (lo ≤ i) && x.getLsbD (i - lo)) := by
  by_cases hi : i < 12 <;> by_cases hlo : lo ≤ i <;> simp [placeField, hi, hlo]

@[simp] theorem getElem_placeField {n : Nat} (x : BitVec n) (lo i : Nat) (hi : i < 12) :
    (placeField x lo)[i] = (decide (lo ≤ i) && x.getLsbD (i - lo)) := by
  rw [← BitVec.getLsbD_eq_getElem, getLsbD_placeField, decide_eq_true hi, Bool.true_and]

/-- A field placed at `lo` is read back there, whatever the word holds elsewhere (R101, R105). -/
theorem extractLsb'_or_placeField {row : FrameWord} {lo n : Nat} (x : BitVec n) (h : lo + n ≤ 12)
    (hrow : row.extractLsb' lo n = 0#n) : (row ||| placeField x lo).extractLsb' lo n = x := by
  have hplace : (placeField x lo).extractLsb' lo n = x := by
    apply BitVec.eq_of_getLsbD_eq
    intro i hi
    have hlo : lo + i < 12 := by omega
    simp [hi, hlo]
  rw [BitVec.extractLsb'_or, hrow, hplace, BitVec.zero_or]

/-- A field placed above is not seen (R105). -/
theorem extractLsb'_or_placeField_above {row : FrameWord} {lo n m : Nat} (x : BitVec m) {lo' : Nat} (h : lo + n ≤ lo') :
    (row ||| placeField x lo').extractLsb' lo n = row.extractLsb' lo n := by
  apply BitVec.eq_of_getLsbD_eq
  intro i hi
  have hlo : ¬ lo' ≤ lo + i := by omega
  simp [-BitVec.getLsbD_eq_getElem, getLsbD_placeField, hlo]

theorem decodeFrame_sresetWord (addr : Addr) (e : Nat) :
    decodeFrame (0x001 ||| placeField addr 3) e = .sreset addr e := by
  have row := FrameRow.sreset (w := 0x001 ||| placeField addr 3) (endPos := e) (by simp) (by simp) (by simp) (by simp)
  rw [row.decodeFrame_eq, addrField, extractLsb'_or_placeField addr (by decide) rfl]

theorem decodeFrame_sselWord (addr : Addr) (e : Nat) : decodeFrame (0x201 ||| placeField addr 3) e = .ssel addr e := by
  have row := FrameRow.ssel (w := 0x201 ||| placeField addr 3) (endPos := e) (by simp) (by simp) (by simp) (by simp)
  rw [row.decodeFrame_eq, addrField, extractLsb'_or_placeField addr (by decide) rfl]

theorem decodeFrame_dataWord (value : ByteField) (e : Nat) :
    decodeFrame (0x003 ||| placeField value 3) e = .data value e := by
  have row := FrameRow.data (w := 0x003 ||| placeField value 3) (endPos := e) (by simp) (by simp)
  rw [row.decodeFrame_eq, byteField, extractLsb'_or_placeField value (by decide) rfl]

/-- The canonical word of a SCTL (R95, R105). -/
def sctlWord (sm bw rw : Bool) (reg : RegNum) : FrameWord :=
  0x401 ||| placeField reg 3 ||| placeField (BitVec.ofBool sm) 7 ||| placeField (BitVec.ofBool bw) 8
    ||| placeField (BitVec.ofBool rw) 9

theorem encode_sctl (sm bw rw : Bool) (reg : RegNum) (e : Nat) :
    encode (.sctl sm bw rw reg e) = .frame (sctlWord sm bw rw reg) e := rfl

theorem decodeFrame_sctlWord (sm bw rw : Bool) (reg : RegNum) (e : Nat) :
    decodeFrame (sctlWord sm bw rw reg) e = .sctl sm bw rw reg e := by
  have row := FrameRow.sctl (w := sctlWord sm bw rw reg) (endPos := e) (by simp [sctlWord]) (by simp [sctlWord])
    (by simp [sctlWord])
  have hsm : smField (sctlWord sm bw rw reg) = sm := by simp [smField, sctlWord]
  have hbw : bwField (sctlWord sm bw rw reg) = bw := by simp [bwField, sctlWord]
  have hrw : rwField (sctlWord sm bw rw reg) = rw := by simp [rwField, sctlWord]
  have hreg : regField (sctlWord sm bw rw reg) = reg := by
    rw [regField, sctlWord, extractLsb'_or_placeField_above _ (by decide), extractLsb'_or_placeField_above _ (by decide),
      extractLsb'_or_placeField_above _ (by decide), extractLsb'_or_placeField reg (by decide) rfl]
  rw [row.decodeFrame_eq, hreg, hsm, hbw, hrw]

/-- A slice put back where it came from is the word under the slice's mask. -/
theorem placeField_extractLsb' (w : FrameWord) (lo n : Nat) :
    placeField (w.extractLsb' lo n) lo = w &&& placeField (BitVec.allOnes n) lo := by
  apply BitVec.eq_of_getLsbD_eq
  intro i hi
  rw [BitVec.getLsbD_and, getLsbD_placeField, getLsbD_placeField, BitVec.getLsbD_extractLsb', BitVec.getLsbD_allOnes]
  by_cases hlo : lo ≤ i
  · simp [hi, hlo, Bool.and_comm]
  · simp [hlo]

/-- A Select/Reset word is its row's fixed bits and its address, but for bits 2 and 11 (R94, R103). -/
theorem or_placeField_addrField {row : FrameWord} (h : w &&& 0x603 = row) :
    row ||| placeField (addrField w) 3 = w &&& 0x7FB := by
  rw [← h, addrField, placeField_extractLsb', ← BitVec.and_or_distrib_left]
  rfl

theorem or_placeField_byteField (h : w &&& 0x003 = 0x003) : 0x003 ||| placeField (byteField w) 3 = w &&& 0x7FB := by
  rw [← h, byteField, placeField_extractLsb', ← BitVec.and_or_distrib_left]
  rfl

theorem ofBool_getLsbD (w : FrameWord) (k : Nat) : BitVec.ofBool (w.getLsbD k) = w.extractLsb' k 1 := by
  apply BitVec.eq_of_getLsbD_eq
  intro i hi
  obtain rfl : i = 0 := by omega
  simp

theorem sctlWord_fields (h : w &&& 0x403 = 0x401) :
    sctlWord (smField w) (bwField w) (rwField w) (regField w) = w &&& 0x7FB := by
  simp only [sctlWord, ← h, smField, bwField, rwField, regField, ofBool_getLsbD, placeField_extractLsb',
    ← BitVec.and_or_distrib_left]
  rfl

/-! ### Decode after encode (R196(c)) -/

/-- Every frame row decodes in either classifier state (R104). -/
theorem decode_encode_frame {i : Instr} (masks : Bool) (cls : Cls) (hcls : i.clsOf = none)
    (hwf : i.wellFormed masks = true) : decode masks cls (encode i) = i := by
  cases i with
  | sreset addr e => exact decodeFrame_sresetWord addr e
  | ssel addr e => exact decodeFrame_sselWord addr e
  | sctl sm bw rw reg e => exact decodeFrame_sctlWord sm bw rw reg e
  | data value e => exact decodeFrame_dataWord value e
  | null e => rfl
  | unclassified raw e =>
    obtain ⟨h0, hne⟩ : raw.getLsbD 0 = false ∧ raw ≠ 0 := by
      simpa only [Instr.wellFormed, unclassifiedWord, Bool.and_eq_true, Bool.not_eq_true', bne_iff_ne] using hwf
    exact (FrameRow.unclassified h0 hne).decodeFrame_eq
  | _ => cases hcls

theorem decode_encode_skipping {i : Instr} (masks : Bool) (hcls : i.clsOf = some .skipToFall) :
    decode masks .skipToFall (encode i) = i := by
  cases i with
  | evSkipEnd | evSkipHoldNoClock | evSkipHoldClockHigh => rfl
  | _ => cases hcls

theorem decode_encode_observing {i : Instr} (masks : Bool) (hcls : i.clsOf = some .observe)
    (hwf : i.wellFormed masks = true) : decode masks .observe (encode i) = i := by
  cases i with
  | evInterference | evDataOnlyClockHigh | evNone => rfl
  | evNoise tc dv dir pos =>
    have hcode : noiseCode masks tc = true := hwf
    simp [encode, decode, decodeEvent, decodeObserving, hcode]
  | evClkRise td data dv dir pos =>
    cases td with
    | false => simp [encode, decode, decodeEvent, decodeObserving]
    | true =>
      obtain ⟨rfl, rfl⟩ : masks = false ∧ data = false := by simpa [Instr.wellFormed, clkRiseCode] using hwf
      rfl
  | evClkFall td data dv dir pos => simp [encode, decode, decodeEvent, decodeObserving]
  | evDataOnlyClockLow data dv dir pos => simp [encode, decode, decodeEvent, decodeObserving]
  | _ => cases hcls

theorem inCls_iff {cls : Cls} {i : Instr} : i.inCls cls = true ↔ i.clsOf = none ∨ i.clsOf = some cls := by
  simp [Instr.inCls]

/-- Settles O13, by the rows of frames and those of each classifier state. -/
theorem decodeAfterEncodeIsIdentity : Obligations.DecodeAfterEncodeIsIdentity := by
  intro masks cls i hwf hin
  rcases inCls_iff.mp hin with hcls | hcls
  · exact decode_encode_frame masks cls hcls hwf
  · cases cls with
    | skipToFall => exact decode_encode_skipping masks hcls
    | observe => exact decode_encode_observing masks hcls hwf

/-! ### Encode after decode (R91, R102, R103) -/

/-- Every event is the encoding of an instruction of the classifier state: R131's three rows, and R91's table. -/
theorem exists_encode_eq_event (masks : Bool) (cls : Cls) (ev : Event) :
    ∃ i : Instr, encode i = .event ev ∧ i.wellFormed masks = true ∧ i.clsOf = some cls := by
  obtain ⟨tc, td, clk, data, dv, dir, pos⟩ := ev
  cases cls with
  | skipToFall =>
    match tc, clk with
    | true, false => exact ⟨.evSkipEnd td data dv dir pos, rfl, rfl, rfl⟩
    | true, true => exact ⟨.evSkipHoldClockHigh td data dv dir pos, rfl, rfl, rfl⟩
    | false, clk => exact ⟨.evSkipHoldNoClock td clk data dv dir pos, rfl, rfl, rfl⟩
  | observe =>
    match tc, td, clk, data with
    | true, true, true, true => exact ⟨.evInterference dv dir pos, rfl, rfl, rfl⟩
    | false, true, true, false => exact ⟨.evNoise false dv dir pos, rfl, rfl, rfl⟩
    | true, true, true, false =>
      cases masks with
      | true => exact ⟨.evNoise true dv dir pos, rfl, rfl, rfl⟩
      | false => exact ⟨.evClkRise true false dv dir pos, rfl, rfl, rfl⟩
    | true, false, true, data => exact ⟨.evClkRise false data dv dir pos, rfl, rfl, rfl⟩
    | true, td, false, data => exact ⟨.evClkFall td data dv dir pos, rfl, rfl, rfl⟩
    | false, true, false, data => exact ⟨.evDataOnlyClockLow data dv dir pos, rfl, rfl, rfl⟩
    | false, true, true, true => exact ⟨.evDataOnlyClockHigh dv dir pos, rfl, rfl, rfl⟩
    | false, false, clk, data => exact ⟨.evNone clk data dv dir pos, rfl, rfl, rfl⟩

/-- An event decodes to the one instruction of the classifier state that it encodes. -/
theorem decodeEvent_of_encode {masks : Bool} {cls : Cls} {ev : Event} {i : Instr} (henc : encode i = .event ev)
    (hwf : i.wellFormed masks = true) (hcls : i.clsOf = some cls) : decodeEvent masks cls ev = i := by
  have hdec := decodeAfterEncodeIsIdentity masks cls i hwf (inCls_iff.mpr (.inr hcls))
  rwa [henc] at hdec

/-- A frame's instruction encodes to the frame, bits 2 and 11 of a Control or Data frame cleared. -/
theorem FrameRow.encode_eq {i : Instr} (h : FrameRow w e i) :
    encode i = .frame (if w.getLsbD 0 then w &&& 0x7FB else w) e := by
  cases h with
  | sreset h0 h1 h9 h10 =>
    rw [h0, if_pos rfl, ← or_placeField_addrField (and_sresetMask_iff.mpr ⟨h0, h1, h9, h10⟩)]
    rfl
  | ssel h0 h1 h9 h10 =>
    rw [h0, if_pos rfl, ← or_placeField_addrField (and_sselMask_iff.mpr ⟨h0, h1, h9, h10⟩)]
    rfl
  | sctl h0 h1 h10 =>
    rw [h0, if_pos rfl, encode_sctl, sctlWord_fields (and_sctlMask_iff.mpr ⟨h0, h1, h10⟩)]
  | data h0 h1 =>
    rw [h0, if_pos rfl, ← or_placeField_byteField (and_dataMask_iff.mpr ⟨h0, h1⟩)]
    rfl
  | null h =>
    subst h
    rfl
  | unclassified h0 _ =>
    rw [h0]
    rfl

theorem FrameRow.wellFormed {i : Instr} (h : FrameRow w e i) (masks : Bool) : i.wellFormed masks = true := by
  cases h with
  | unclassified h0 h =>
    rw [Instr.wellFormed, unclassifiedWord, h0]
    exact bne_iff_ne.mpr h
  | _ => rfl

theorem FrameRow.clsOf_eq {i : Instr} (h : FrameRow w e i) : i.clsOf = none := by
  cases h <;> rfl

/-- Settles O14: an event by the instruction that encodes to it, a frame by its row. -/
theorem encodeAfterDecodeRestoresWord : Obligations.EncodeAfterDecodeRestoresWord := by
  refine ⟨fun masks cls ev => ?_, fun masks cls w e => ?_⟩
  · obtain ⟨i, henc, hwf, hcls⟩ := exists_encode_eq_event masks cls ev
    rw [decodeEvent_of_encode henc hwf hcls]
    exact ⟨henc, hwf, inCls_iff.mpr (.inr hcls)⟩
  · have row := frameRow_decodeFrame w e
    exact ⟨row.encode_eq, row.wellFormed masks, inCls_iff.mpr (.inl row.clsOf_eq)⟩

/-! ### The event codes (R91) -/

theorem toNat_append_ofBool {n : Nat} (x : BitVec n) (b : Bool) :
    (x ++ BitVec.ofBool b).toNat = 2 * x.toNat + b.toNat := by
  rw [Nat.mul_comm]
  exact BitVec.toNat_concat x b

theorem code_toNat (ev : Event) :
    ev.code.toNat = 8 * ev.tc.toNat + 4 * ev.td.toNat + 2 * ev.clk.toNat + ev.data.toNat := by
  simp only [Event.code, toNat_append_ofBool, BitVec.toNat_ofBool]
  omega

/-- Settles O6, each row of the table by the instruction that encodes to its codes; EV.NOISE needs the default of the noise
filter's parameter. -/
theorem eventCodeTableSelectsOperation : Obligations.EventCodeTableSelectsOperation := by
  intro tc td clk data dv dir pos
  refine ⟨code_toNat _, ?_, ?_⟩
  · split <;> exact decodeEvent_of_encode rfl rfl rfl
  · split
    case h_2 => exact decodeEvent_of_encode rfl (Bool.or_true _) rfl
    all_goals exact decodeEvent_of_encode rfl rfl rfl

/-! ### Table words (log entry 9) -/

/-- Settles O7: the decoder run on each of the twelve words. -/
theorem tableWordsDecode : Obligations.TableWordsDecode := by
  unfold Obligations.TableWordsDecode
  decide

/-- The byte images that hold a code: one byte for an event, two for a frame (log entry 9). -/
theorem readImage_ok_cases {dv dir : Bool} {pos : Nat} {bytes : List Byte} {c : Code}
    (h : readImage dv dir pos bytes = .ok c) :
    (∃ b, bytes = [b] ∧ c = .event (.ofCode (b.extractLsb' 0 4) dv dir pos)) ∨
      ∃ b0 b1, bytes = [b0, b1] ∧ b1.extractLsb' 4 4 = 0 ∧ c = .frame (b1.extractLsb' 0 4 ++ b0) pos := by
  unfold readImage at h
  split at h
  next b =>
    split at h
    next => cases h; exact .inl ⟨b, rfl, rfl⟩
    next => cases h
  next b0 b1 =>
    split at h
    next hb => cases h; exact .inr ⟨b0, b1, rfl, hb, rfl⟩
    next => cases h
  next => cases h

theorem length_bytesOf (n w : Nat) : (bytesOf n w).length = n := by
  induction n generalizing w with
  | zero => rfl
  | succ n ih => rw [bytesOf, List.length_cons, ih]

theorem tableCode_eq_some {nbits w : Nat} {c : Code} (h : tableCode nbits w = some c) :
    readImage false false (tableWordPos nbits) (bytesOf ((nbits + 7) / 8) w) = .ok c := by
  unfold tableCode at h
  cases hread : readImage false false (tableWordPos nbits) (bytesOf ((nbits + 7) / 8) w) with
  | ok d =>
    rw [hread] at h
    cases h
    rfl
  | error e =>
    rw [hread] at h
    cases h

/-- The low nibble of the second byte above the first byte is the low twelve bits. -/
theorem twelveBits_of_bytes (w : Nat) :
    (BitVec.ofNat 8 (w / 256)).extractLsb' 0 4 ++ BitVec.ofNat 8 w = BitVec.ofNat 12 w := by
  apply BitVec.eq_of_getLsbD_eq
  intro i hi
  rw [BitVec.getLsbD_append]
  split
  next hlow => simp [-BitVec.getLsbD_eq_getElem, BitVec.getLsbD_ofNat, hlow, hi]
  next hlow =>
    have hhigh : i - 8 < 4 ∧ i - 8 < 8 := by omega
    have hbit : (w / 2 ^ 8).testBit (i - 8) = w.testBit i := by
      rw [Nat.testBit_div_two_pow, Nat.sub_add_cancel (Nat.le_of_not_lt hlow)]
    simpa [-BitVec.getLsbD_eq_getElem, BitVec.getLsbD_ofNat, hhigh, hi] using hbit

/-- A table word of at most a byte is an event. -/
theorem tableCode_event {nbits w : Nat} {c : Code} (hbits : nbits ≤ 8) (h : tableCode nbits w = some c) :
    ∃ ev, c = .event ev := by
  rcases readImage_ok_cases (tableCode_eq_some h) with ⟨b, _, rfl⟩ | ⟨b0, b1, hbytes, _⟩
  · exact ⟨_, rfl⟩
  · have hlen := length_bytesOf ((nbits + 7) / 8) w
    rw [hbytes, List.length_cons, List.length_singleton] at hlen
    omega

/-- A longer table word is the frame of its low twelve bits, completed at position 2 (log entry 9). -/
theorem tableCode_frame {nbits w : Nat} {c : Code} (hbits : 8 < nbits) (h : tableCode nbits w = some c) :
    c = .frame (BitVec.ofNat 12 w) 2 := by
  have hlen := length_bytesOf ((nbits + 7) / 8) w
  rcases readImage_ok_cases (tableCode_eq_some h) with ⟨b, hbytes, _⟩ | ⟨b0, b1, hbytes, _, rfl⟩
  · rw [hbytes, List.length_singleton] at hlen
    omega
  · have htwo : (nbits + 7) / 8 = 2 := by
      rw [← hlen, hbytes]
      rfl
    rw [htwo] at hbytes
    cases hbytes
    rw [twelveBits_of_bytes, tableWordPos, if_neg (Nat.not_le.mpr hbits)]
    rfl

end Sys2Proof

namespace Sys2Proof.Machine

/-! ### The canonical expansion of a frame (R106, R154, R158) -/

/-- A pulse wide enough is accepted, and completes the frame when it leaves twelve bits held (R153, R158). -/
theorem clockFall_of_wide {s : State} {pos : Nat} (h : s.pulseStart + 2 ≤ pos) (dv dir : Bool) :
    s.clockFall dv dir pos =
      if s.fb.length < 11 then s.acceptPulse dv dir pos else (s.acceptPulse dv dir pos).complete pos := by
  rcases clockFall_cases s dv dir pos with ⟨hnarrow, _⟩ | ⟨_, hlt, heq⟩ | ⟨_, hge, heq⟩
  · rw [(narrowPulse_false_iff _ _).mpr h] at hnarrow
    cases hnarrow
  · rw [heq, if_pos hlt]
  · rw [heq, if_neg (Nat.not_lt.mpr hge)]

/-- A buffer that holds a word's bits in wire order holds that word (R9, R93). -/
theorem frameWord_of_wire {s : State} {w : FrameWord} {pos : Nat → Nat}
    (h : s.fb = (List.range 12).map fun k => Entry.mk (w.getLsbD k) (pos k)) : s.frameWord = w := by
  apply BitVec.eq_of_getLsbD_eq
  intro i hi
  rw [frameWord_getLsbD s i hi, h]
  simp [hi]

/-- The direction level reported with bit `k` of a frame, if any (R93, R106). -/
def dirAt (dirs : Option FrameWord) (k : Nat) : Option Bool := dirs.map (fun d => d.getLsbD k)

/-- The buffer entry of bit `k` of the frame word `w` expanded at `t`. -/
def expandedEntry (w : FrameWord) (t k : Nat) : Entry := ⟨w.getLsbD k, t + 8 * k + 2⟩

/-- The records of the pulse of bit `k` of the frame word `w` expanded at `t` (R152, R155). -/
def pulseRecords (opts : Options) (w : FrameWord) (t k : Nat) : List Record :=
  (if opts.showClk then [Record.mk (t + 8 * k + 2) (t + 8 * k + 6) .clk] else []) ++
    (if opts.showBit then [Record.mk (t + 8 * k + 2) (t + 8 * k + 6) (.bit (w.getLsbD k))] else [])

/-- `s` once bits 0 to `k` of the frame word `w`, expanded at `t`, are accepted, and no completion is tested for. -/
def State.afterBit (s : State) (t : Nat) (w : FrameWord) (dirs : Option FrameWord) (k : Nat) : State :=
  { s with
    curBit := w.getLsbD k, pulseStart := t + 8 * k + 2, frameStart := t + 2, dec := .inFrame
    fb := (List.range (k + 1)).map (expandedEntry w t)
    asicFlag := s.asicFlag || (decide (3 ≤ k) && (dirAt dirs 3).getD false)
    output := s.output ++ (List.range (k + 1)).flatMap (pulseRecords s.opts w t) }

section Expansion

variable {s : State} {t : Nat} {w : FrameWord} {dirs : Option FrameWord} {rest : List Event}

/-- The first pulse of a frame, from a state where its rise is a start condition (R151). -/
theorem afterPulse_first (hstart : s.fb = [] ∨ (s.dec = .search ∧ w.getLsbD 0 = true)) :
    s.afterPulse (w.getLsbD 0) (dirAt dirs 0) t = s.afterBit t w dirs 0 := by
  have hrise : s.clockRise (w.getLsbD 0) (t + 2) = (s.sample (w.getLsbD 0) (t + 2)).startFrame (t + 2) := by
    rcases clockRise_cases s (w.getLsbD 0) (t + 2) with ⟨_, h⟩ | ⟨hno, _⟩
    · exact h
    · exact absurd hstart.symm hno
  rw [State.afterPulse, hrise, clockFall_of_wide (by simp), if_pos (by simp), acceptPulse_eq]
  simp [State.afterBit, State.startFrame, State.sample, State.pulseRecord, recordsIf, expandedEntry, pulseRecords]

/-- The direction level of the fourth bit, if reported, is the one that marks the frame (R156). -/
theorem fourthBit_marks (dirs : Option FrameWord) (k : Nat) :
    (decide (3 ≤ k) && (dirAt dirs 3).getD false ||
        (dirAt dirs (k + 1)).isSome && k == 2 && (dirAt dirs (k + 1)).getD false) =
      (decide (2 ≤ k) && (dirAt dirs 3).getD false) := by
  rcases Nat.lt_trichotomy k 2 with h | rfl | h
  · have h3 : ¬ 3 ≤ k := by omega
    simp [h3, h.ne, Nat.not_le.mpr h]
  · cases dirs <;> simp [dirAt]
  · have h3 : 3 ≤ k := h
    simp [h3, h.ne', h.le]

/-- A further pulse of a frame appends its bit; its fall finds `k + 1` bits held. -/
theorem afterBit_acceptPulse {k : Nat} (hk : k < 11) :
    ((s.afterBit t w dirs k).sample (w.getLsbD (k + 1)) (t + 8 * (k + 1) + 2)).acceptPulse
        (dirAt dirs (k + 1)).isSome ((dirAt dirs (k + 1)).getD false) (t + 8 * (k + 1) + 6) =
      s.afterBit t w dirs (k + 1) := by
  have hroom : k + 1 + 1 - 12 = 0 := by omega
  rw [acceptPulse_eq]
  simp [State.afterBit, State.sample, hroom, Bool.or_assoc, fourthBit_marks, State.pulseRecord, recordsIf, expandedEntry,
    pulseRecords, List.range_succ]

/-- A further pulse of a frame is one more bit received, and the twelfth completes the frame. -/
theorem afterBit_afterPulse {k : Nat} (hk : k < 11) :
    (s.afterBit t w dirs k).afterPulse (w.getLsbD (k + 1)) (dirAt dirs (k + 1)) (t + 8 * (k + 1)) =
      if k < 10 then s.afterBit t w dirs (k + 1) else (s.afterBit t w dirs 11).complete (t + 94) := by
  have hrise : (s.afterBit t w dirs k).clockRise (w.getLsbD (k + 1)) (t + 8 * (k + 1) + 2) =
      (s.afterBit t w dirs k).sample (w.getLsbD (k + 1)) (t + 8 * (k + 1) + 2) := by
    rcases clockRise_cases (s.afterBit t w dirs k) (w.getLsbD (k + 1)) (t + 8 * (k + 1) + 2) with ⟨hstart, _⟩ | ⟨_, h⟩
    · simp [State.afterBit] at hstart
    · exact h
  have hlen : ((s.afterBit t w dirs k).sample (w.getLsbD (k + 1)) (t + 8 * (k + 1) + 2)).fb.length = k + 1 := by
    simp [State.afterBit]
  rw [State.afterPulse, hrise, clockFall_of_wide (by simp), afterBit_acceptPulse hk, hlen]
  by_cases h : k < 10
  · rw [if_pos h, if_pos (by omega)]
  · obtain rfl : k = 10 := by omega
    rfl

/-- The events of bits `k` to `k + n - 1` of the frame word `w` expanded at `t`, after the data level `prev` (R106). -/
def expandedBits (prev : Bool) (t : Nat) (w : FrameWord) (dirs : Option FrameWord) (k n : Nat) : List Event :=
  bitEvents prev (t + 8 * k) ((List.range' k n).map fun i => (w.getLsbD i, dirAt dirs i))

theorem frameEvents_eq (prev : Bool) (t : Nat) (w : FrameWord) (dirs : Option FrameWord) :
    frameEvents prev t w dirs =
      pulseEvents prev t (w.getLsbD 0) (dirAt dirs 0) ++ expandedBits (w.getLsbD 0) t w dirs 1 11 := rfl

theorem expandedBits_zero (prev : Bool) (t : Nat) (w : FrameWord) (dirs : Option FrameWord) (k : Nat) :
    expandedBits prev t w dirs k 0 = [] := rfl

theorem expandedBits_succ (prev : Bool) (t : Nat) (w : FrameWord) (dirs : Option FrameWord) (k n : Nat) :
    expandedBits prev t w dirs k (n + 1) =
      pulseEvents prev (t + 8 * k) (w.getLsbD k) (dirAt dirs k) ++
        expandedBits (w.getLsbD k) t w dirs (k + 1) n := rfl

/-- The events of the bits left complete the frame (R158). -/
theorem run_expandedBits {prev : Bool} {n k : Nat} (hn : k + n = 10) (hc : s.cls = .observe)
    (hi : s.input = expandedBits prev t w dirs (k + 1) (n + 1) ++ rest) :
    Host.Core.run Sys2Proof.core (expandedBits prev t w dirs (k + 1) (n + 1)).length (s.afterBit t w dirs k) =
      .next ((State.afterBit { s with input := rest } t w dirs 11).complete (t + 94)) := by
  induction n generalizing s k prev with
  | zero =>
    obtain rfl : k = 10 := hn
    rw [expandedBits_succ, expandedBits_zero, List.append_nil] at hi ⊢
    have hpulse := run_pulseEvents (s := s.afterBit t w dirs 10) hc hi
    exact hpulse.trans (congrArg _ (afterBit_afterPulse (s := { s with input := rest }) (by decide)))
  | succ n ih =>
    rw [expandedBits_succ, List.append_assoc] at hi
    have hpulse := run_pulseEvents (s := s.afterBit t w dirs k) hc hi
    have hnext := afterBit_afterPulse (k := k) (t := t) (w := w) (dirs := dirs)
      (s := { s with input := expandedBits (w.getLsbD (k + 1)) t w dirs (k + 2) (n + 1) ++ rest }) (by omega)
    rw [if_pos (by omega)] at hnext
    rw [expandedBits_succ, List.length_append, run_add _ _ (hpulse.trans (congrArg _ hnext))]
    exact ih (by omega) hc rfl

/-- All twelve bits received are the frame word (R9, R93). -/
theorem afterBit_frameWord : (s.afterBit t w dirs 11).frameWord = w :=
  frameWord_of_wire (pos := fun k => t + 8 * k + 2) rfl

/-- `FRAME w` (R106), taken where its first rise is a start condition, performs the operation of its word at its end. -/
theorem run_frameEvents {prev : Bool} (hc : s.cls = .observe)
    (hstart : s.fb = [] ∨ (s.dec = .search ∧ w.getLsbD 0 = true)) (hi : s.input = frameEvents prev t w dirs ++ rest) :
    Host.Core.run Sys2Proof.core (frameEvents prev t w dirs).length s =
      exec (decodeFrame w (t + 94)) (State.afterBit { s with input := rest } t w dirs 11) := by
  rw [frameEvents_eq, List.append_assoc] at hi
  have hfirst := (run_pulseEvents hc hi).trans (congrArg _ (afterPulse_first hstart))
  have hothers := run_expandedBits (s := { s with input := expandedBits (w.getLsbD 0) t w dirs 1 11 ++ rest })
    (k := 0) (n := 10) rfl hc rfl
  rw [frameEvents_eq, List.length_append, run_add _ _ hfirst]
  have hcomplete := exec_decodeFrame (State.afterBit { s with input := rest } t w dirs 11) (t + 94)
  rw [afterBit_frameWord] at hcomplete
  exact hothers.trans hcomplete.symm

end Expansion

/-- Settles O54, by induction over the bits left: the first pulse takes the start condition, each further one is appended,
and the twelfth completes the frame with its word. -/
theorem canonicalFrameExpansionDecodes : Obligations.CanonicalFrameExpansionDecodes :=
  fun _ _ _ _ _ _ hc hstart hi => (run_frameEvents hc hstart hi).trans rfl

/-! ### A placed table word (R158; log entry 11) -/

/-- The frame a table word places, at the end of the clock fall that completes it. -/
def State.stagedFull (s : State) (w : FrameWord) (endPos : Nat) : State :=
  (s.stageFrame w endPos).consume.acceptPulse false false endPos

theorem stagedFull_fb (s : State) (w : FrameWord) (endPos : Nat) :
    (s.stagedFull w endPos).fb = (List.range 12).map fun k => Entry.mk (w.getLsbD k) 0 := by
  rw [State.stagedFull, acceptPulse_eq]
  rfl

theorem stagedFull_keeps (s : State) (w : FrameWord) (endPos : Nat) :
    (s.stagedFull w endPos).ctx = s.ctx ∧ (s.stagedFull w endPos).asicFlag = s.asicFlag ∧
      (s.stagedFull w endPos).opts = s.opts ∧ (s.stagedFull w endPos).input = s.input := by
  rw [State.stagedFull, acceptPulse_eq]
  exact ⟨rfl, Bool.or_false _, rfl, rfl⟩

/-- The step that takes a placed frame's clock fall performs the frame's instruction. -/
theorem step_stageFrame (s : State) (w : FrameWord) {endPos : Nat} (hwide : 2 ≤ endPos) :
    step (s.stageFrame w endPos) = exec (decodeFrame w endPos) (s.stagedFull w endPos) := by
  have hop : (s.stageFrame w endPos).operationOf (completingFall w endPos) =
      .evClkFall false (w.getLsbD 11) false false endPos := decodeEvent_of_encode rfl rfl rfl
  have hfall : (s.stageFrame w endPos).consume.clockFall false false endPos = (s.stagedFull w endPos).complete endPos := by
    rw [clockFall_of_wide (by simpa [State.stageFrame] using hwide)]
    rfl
  have hexec := exec_decodeFrame (s.stagedFull w endPos) endPos
  rw [frameWord_of_wire (stagedFull_fb s w endPos), ← hfall] at hexec
  rw [step_cons _ _ _ rfl, hop, hexec]
  rfl

theorem step_stageEvent (s : State) (ev : Event) :
    step (s.stageEvent ev) =
      exec (decode Config.noiseMasksClkRiseDefault .observe (.event ev)) (s.stageEvent ev).consume := rfl

/-- Settles O15: a word of at most a byte places an event, a longer one the frame of its low twelve bits. -/
theorem placedTableWordRunsNext : Obligations.PlacedTableWordRunsNext := by
  intro s nbits w i hi
  obtain ⟨c, hcode, rfl⟩ := Option.map_eq_some_iff.mp hi
  have hplaced : s.withFetchWord nbits w = s.stage c := by simp only [State.withFetchWord, hcode]
  rw [hplaced]
  refine ⟨fun hbits => ?_, fun hbits => ?_⟩
  · obtain ⟨ev, rfl⟩ := tableCode_event hbits hcode
    exact step_stageEvent s ev
  · obtain rfl := tableCode_frame hbits hcode
    have hfb := stagedFull_fb s (BitVec.ofNat 12 w) 2
    obtain ⟨hctx, hflag, hopts, hinput⟩ := stagedFull_keeps s (BitVec.ofNat 12 w) 2
    exact ⟨_, frameWord_of_wire hfb, by rw [hfb]; rfl, hctx, hflag, hopts, hinput, rfl,
      step_stageFrame s _ (Nat.le_refl 2)⟩

/-! ### The configuration word (R109) -/

/-- Settles O46, the word `CFG` bit by bit. -/
theorem configureSetsOptionsOnly : Obligations.ConfigureSetsOptionsOnly := by
  intro s cfg
  refine ⟨rfl, ?_, rfl⟩
  apply BitVec.eq_of_toNat_eq
  have hcfg : cfg.toNat =
      (cfg.getLsbD 0).toNat + (cfg.getLsbD 1).toNat * 2 + (cfg.getLsbD 2).toNat * 4 + (cfg.getLsbD 3).toNat * 8 := by
    simpa [List.range_succ, Nat.add_assoc] using toNat_eq_sum_getLsbD cfg
  simp only [Options.word, Options.ofWord, toNat_append_ofBool, BitVec.toNat_ofBool]
  omega

/-! ### The reference edge detector (R92, D2) -/

/-- The detector's event is one a session's levels allow (R92 (a), (b), (d)). -/
theorem followsLevels_of_edgeEvent {dv : Bool} {prev cur : Sample} {ev : Event} (h : edgeEvent dv prev cur = some ev) :
    followsLevels prev.clk prev.data dv ev = true ∧ ev.clk = cur.clk ∧ ev.data = cur.data ∧ ev.pos = cur.pos := by
  unfold edgeEvent at h
  split at h
  next hchange =>
    cases h
    exact ⟨by simpa [followsLevels] using hchange, rfl, rfl, rfl⟩
  next => cases h

theorem levels_of_edgeEvent_none {dv : Bool} {prev cur : Sample} (h : edgeEvent dv prev cur = none) :
    cur.clk = prev.clk ∧ cur.data = prev.data := by
  simpa [edgeEvent] using h

theorem pos_of_mem_edgeEvents {dv : Bool} {prev : Sample} {samples : List Sample} {ev : Event}
    (h : ev ∈ edgeEvents dv prev samples) : ∃ sample ∈ samples, ev.pos = sample.pos := by
  induction samples generalizing prev with
  | nil => cases h
  | cons cur rest ih =>
    rw [edgeEvents, List.mem_append, Option.mem_toList] at h
    rcases h with h | h
    · obtain ⟨_, _, _, hpos⟩ := followsLevels_of_edgeEvent h
      exact ⟨cur, List.mem_cons_self, hpos⟩
    · obtain ⟨sample, hmem, hpos⟩ := ih h
      exact ⟨sample, List.mem_cons_of_mem _ hmem, hpos⟩

/-- Settles O47, by induction over the samples: each event follows the levels of the sample before it. -/
theorem edgeDetectorStreamIsWellFormed : Obligations.EdgeDetectorStreamIsWellFormed := by
  intro dv first samples hrise
  induction samples generalizing first with
  | nil => rfl
  | cons cur rest ih =>
    obtain ⟨hlater, hrest⟩ := List.pairwise_cons.mp hrise
    have hwf := ih cur hrest
    cases hev : edgeEvent dv first cur with
    | none =>
      obtain ⟨hclk, hdata⟩ := levels_of_edgeEvent_none hev
      rw [edgeEvents, hev, ← hclk, ← hdata]
      exact hwf
    | some ev =>
      obtain ⟨hfollows, hclk, hdata, hpos⟩ := followsLevels_of_edgeEvent hev
      have hafter : (edgeEvents dv cur rest).all (fun later => ev.pos < later.pos) = true := by
        rw [List.all_eq_true]
        intro later hmem
        obtain ⟨sample, hsample, hpos'⟩ := pos_of_mem_edgeEvents hmem
        rw [hpos, hpos', decide_eq_true_iff]
        exact hlater sample hsample
      rw [edgeEvents, hev, Option.toList_some, List.singleton_append, wellFormedStream, hfollows, hafter, hclk, hdata]
      exact hwf

end Sys2Proof.Machine
end

section
/-!
PROOFS. The family of the edge events: the order of tests of one step, what the events below the bit assembler write, and the
interference pulse and the masked clock rise as streams.
-/

namespace Sys2Proof.Machine

/-! ### Who writes `cls` (R138(a)) -/

/-- Settles O21, by the instruction: a frame and a delivered clock edge keep `cls`, and the other events write nothing. -/
theorem classifierStateWrittenOnlyBySkipEvents : Obligations.ClassifierStateWrittenOnlyBySkipEvents := by
  intro i s t h hne
  cases i with
  | evInterference dv dir p =>
    cases h
    exact .inl ⟨rfl, dv, dir, p, rfl⟩
  | evSkipEnd td d dv dir p =>
    cases h
    exact .inr ⟨rfl, td, d, dv, dir, p, rfl⟩
  | _ =>
    cases h
    simp at hne

/-! ### The order of tests (R130) -/

/-- While an interference is skipped only a clock fall writes anything, and it writes `cls` (R131). -/
theorem exec_decodeSkipping (s : State) (ev : Event) :
    exec (decodeSkipping ev) s = .next { s with cls := if ev.tc && !ev.clk then .observe else s.cls } := by
  unfold decodeSkipping
  by_cases hfall : (ev.tc && !ev.clk) = true
  · rw [if_pos hfall, if_pos hfall]
    rfl
  · rw [if_neg hfall, if_neg hfall]
    cases ev.tc <;> rfl

/-- R130's tests in the observing state, the noise filter masking a coincident clock rise (R133). -/
theorem exec_decodeObserving_masking (s : State) (ev : Event) :
    exec (decodeObserving true ev) s =
      if ev.tc = true ∧ ev.td = true ∧ ev.clk = true ∧ ev.data = true then .next s.enterSkip
      else if ev.td = true ∧ ev.data = false ∧ ev.clk = true then .next s
      else if ev.tc = true ∧ ev.clk = true then exec (.evClkRise ev.td ev.data ev.dv ev.dir ev.pos) s
      else if ev.tc = true ∧ ev.clk = false then exec (.evClkFall ev.td ev.data ev.dv ev.dir ev.pos) s
      else .next s := by
  have hmask : noiseCode true ev.tc = true := Bool.or_true _
  simp only [decodeObserving, hmask, Bool.and_eq_true, Bool.not_eq_true', and_assoc, and_true]
  split_ifs <;> rfl

/-- Settles O20. -/
theorem skipChangesOnlyClassifierState : Obligations.SkipChangesOnlyClassifierState := by
  intro s ev rest hi hc
  rw [step_cons s ev rest hi, State.operationOf, hc, decodeEvent, exec_decodeSkipping, State.consume_cls, hc,
    consume_of_input hi]

theorem skipping_or_observing (s : State) : s.cls = .skipToFall ∨ s.cls = .observe := by
  cases s.cls with
  | skipToFall => exact .inl rfl
  | observe => exact .inr rfl

/-- Settles O2, by the classifier state. -/
theorem stepFollowsDispatchOrder : Obligations.StepFollowsDispatchOrder := by
  intro s ev rest hi hmasks
  rcases skipping_or_observing s with hc | hc
  · rw [if_pos hc, skipChangesOnlyClassifierState s ev rest hi hc]
    by_cases hfall : ev.tc = true ∧ ev.clk = false
    · simp [hfall]
    · have hhold : (ev.tc && !ev.clk) = false := by simpa using hfall
      simp [hfall, hhold, hc]
  · have hdecode : decodeEvent s.par.noiseMasksClkRise s.cls ev = decodeObserving true ev := by
      rw [hmasks, hc, decodeEvent]
    have hne : s.cls ≠ .skipToFall := by simp [hc]
    rw [if_neg hne, stepRunsDecodedEvent s ev rest _ hi hdecode]
    exact exec_decodeObserving_masking { s with input := rest } ev

/-! ### The events that deliver nothing (R131 to R133, R136, R137)

Each code selects the instruction that encodes to it, and the instruction's meaning is its arm of `exec`. -/

/-- Settles O16. -/
theorem skipHoldAndSkipEnd : Obligations.SkipHoldAndSkipEnd :=
  fun _ _ _ _ _ _ _ _ =>
    ⟨decodeEvent_of_encode rfl rfl rfl, decodeEvent_of_encode rfl rfl rfl, decodeEvent_of_encode rfl rfl rfl,
      rfl, rfl, rfl, rfl, rfl, rfl⟩

/-- Settles O17. -/
theorem interferenceBeginsSkip : Obligations.InterferenceBeginsSkip :=
  fun _ _ _ _ _ => ⟨decodeEvent_of_encode rfl rfl rfl, rfl, rfl⟩

/-- Settles O18; code 1110 is an EV.NOISE or an EV.CLK_RISE by the parameter. -/
theorem noiseWritesNothing : Obligations.NoiseWritesNothing := by
  intro s masks tc dv dir p
  refine ⟨rfl, rfl, decodeEvent_of_encode rfl rfl rfl, ?_⟩
  cases masks with
  | true => exact decodeEvent_of_encode rfl rfl rfl
  | false => exact decodeEvent_of_encode rfl rfl rfl

/-- Settles O19. -/
theorem dataOnlyAndNoneChangeNothing : Obligations.DataOnlyAndNoneChangeNothing :=
  fun _ _ _ _ _ _ _ =>
    ⟨decodeEvent_of_encode rfl rfl rfl, decodeEvent_of_encode rfl rfl rfl, decodeEvent_of_encode rfl rfl rfl,
      rfl, rfl, rfl, rfl, rfl, rfl⟩

/-! ### Coincident edges in a stream (R131 to R133, R264) -/

/-- `BOTH 1 1` in the observing state begins a skip (R132). -/
theorem step_interference {s : State} {t : Nat} {dir : Option Bool} {rest : List Event} (hc : s.cls = .observe)
    (hi : s.input = bothEvent t true true dir :: rest) :
    step s = .next { s with input := rest, cls := .skipToFall } := by
  refine stepRunsDecodedEvent s _ rest (.evInterference dir.isSome (dir.getD false) t) hi ?_
  rw [hc]
  exact (interferenceBeginsSkip s _ _ _ _).1

/-- `BOTH 1 0` in the observing state changes nothing where the noise filter masks the clock rise (R133). -/
theorem step_maskedRise {s : State} {t : Nat} {dir : Option Bool} {rest : List Event} (hc : s.cls = .observe)
    (hmasks : s.par.noiseMasksClkRise = true) (hi : s.input = bothEvent t true false dir :: rest) :
    step s = .next { s with input := rest } := by
  refine stepRunsDecodedEvent s _ rest (.evNoise true dir.isSome (dir.getD false) t) hi ?_
  rw [hc, hmasks]
  exact decodeEvent_of_encode rfl rfl rfl

/-- Two steps taken make a run of two. -/
theorem run_two {s t u : State} (hfirst : step s = .next t) (hsecond : step t = .next u) :
    Host.Core.run Sys2Proof.core 2 s = .next u :=
  (run_succ_of_step 1 hfirst).trans (run_succ_of_step 0 hsecond)

/-- Settles O56: the interference writes `cls` only, and the clock fall that ends its skip writes it back. -/
theorem interferencePulseContributesNoBit : Obligations.InterferencePulseContributesNoBit := by
  intro s t rest hc hi
  refine run_two (step_interference hc hi) ?_
  rw [skipChangesOnlyClassifierState _ (fallEvent (t + 4) true none) rest rfl rfl]
  simp only [fallEvent, withDir, Bool.not_false, Bool.and_self, if_true, ← hc]

/-- An accepted pulse of which nothing is shown, with no direction reported and room in the buffer, only appends its bit
(R154 to R157). -/
theorem acceptPulse_of_unshown {s : State} (hlen : s.fb.length < 12) (hclk : s.opts.showClk = false)
    (hbit : s.opts.showBit = false) (dir : Bool) (pos : Nat) :
    s.acceptPulse false dir pos = { s with fb := s.fb ++ [Entry.mk s.curBit s.pulseStart] } := by
  have hroom : s.fb.length + 1 - 12 = 0 := by omega
  simp [acceptPulse_eq, hroom, hclk, hbit]

/-- `FALL` in the observing state, after a wide pulse that completes no frame and of which nothing is shown. -/
theorem step_fall_of_unshown {s : State} {t : Nat} {d : Bool} {rest : List Event} (hc : s.cls = .observe)
    (hi : s.input = fallEvent t d none :: rest) (hwide : s.pulseStart + 2 ≤ t) (hlen : s.fb.length < 11)
    (hclk : s.opts.showClk = false) (hbit : s.opts.showBit = false) :
    step s = .next { s with input := rest, fb := s.fb ++ [Entry.mk s.curBit s.pulseStart] } := by
  have haccept := acceptPulse_of_unshown (s := s.consume) (Nat.lt_succ_of_lt hlen) hclk hbit false t
  rw [step_fall hc hi, Option.isSome_none, Option.getD_none, clockFall_of_wide (s := s.consume) hwide,
    if_pos (show s.consume.fb.length < 11 from hlen), haccept, consume_of_input hi]

/-- Settles O58: the masked rise samples nothing, so that the fall finds the previous pulse's bit and position. -/
theorem maskedRiseRepeatsPreviousBit : Obligations.MaskedRiseRepeatsPreviousBit := by
  intro s t t' rest hc hmasks hlen hclk hbit hwide hi
  exact run_two (step_maskedRise hc hmasks hi) (step_fall_of_unshown hc rfl hwide hlen hclk hbit)

end Sys2Proof.Machine
end

section
/-!
PROOFS. The family of the bit assembler: what a clock rise samples, which pulse the glitch filter ignores, what an accepted
clock fall does and notes, and who sets `asic_flag`.
-/

namespace Sys2Proof.Machine

/-! ### The clock rise (R150, R151) -/

/-- Settles O22, by whether the rise meets the start condition. -/
theorem clockRiseSamplesAndStartsFrame : Obligations.ClockRiseSamplesAndStartsFrame := by
  intro s td d dv dir p
  change Host.Outcome.next (s.clockRise d p) = _
  rcases clockRise_cases s d p with ⟨hstart, heq⟩ | ⟨hnot, heq⟩
  · rw [heq, if_pos (hstart.imp_right List.length_eq_zero_iff.mpr)]
    rfl
  · rw [heq, if_neg fun hstart => hnot (hstart.imp_right List.length_eq_zero_iff.mp)]
    rfl

/-! ### The glitch filter and the anomalies of a clock fall (R153, R230 to R235) -/

/-- A narrow pulse is ignored whole (R153). -/
theorem clockFall_of_narrow {s : State} {pos : Nat} (h : pos < s.pulseStart + 2) (dv dir : Bool) :
    s.clockFall dv dir pos = s := by
  rw [State.clockFall, if_pos ((narrowPulse_iff _ _).mpr h)]

/-- A narrow pulse notes A3 and nothing else (R233). -/
theorem noted_clkFall_of_narrow {s : State} {pos : Nat} (h : pos < s.pulseStart + 2) (td d dv dir : Bool) :
    noted (.evClkFall td d dv dir pos) s = [.glitch] := by
  rw [noted, if_pos ((narrowPulse_iff _ _).mpr h)]

theorem noted_clkFall_of_wide {s : State} {pos : Nat} (h : s.pulseStart + 2 ≤ pos) (td d dv dir : Bool) :
    noted (.evClkFall td d dv dir pos) s = s.acceptedNotes dv dir pos := by
  simp only [noted, (narrowPulse_false_iff _ _).mpr h, Bool.false_eq_true, if_false]

/-- An accepted pulse notes A4 where the append overflows a full buffer, A5 where it completes an Unclassified frame, and
no other anomaly (R234, R235). -/
theorem mem_acceptedNotes {s : State} {dv dir : Bool} {pos : Nat} {anomaly : Anomaly} :
    anomaly ∈ s.acceptedNotes dv dir pos ↔
      (anomaly = .overflow ∧ 12 < s.fb.length + 1) ∨
        (anomaly = .unrecognisedPrefix ∧ (s.acceptPulse dv dir pos).fb.length = 12 ∧
          classify (s.acceptPulse dv dir pos).frameWord = .unclassified) := by
  rw [State.acceptedNotes, frameLen_eq, List.mem_append, List.mem_ite_nil_right, List.mem_ite_nil_right,
    List.mem_singleton, List.mem_singleton]
  exact or_congr and_comm and_comm

theorem glitch_notMem_acceptedNotes (s : State) (dv dir : Bool) (pos : Nat) :
    .glitch ∉ s.acceptedNotes dv dir pos := by
  simp [mem_acceptedNotes]

theorem overflow_mem_acceptedNotes_iff {s : State} {dv dir : Bool} {pos : Nat} :
    .overflow ∈ s.acceptedNotes dv dir pos ↔ 12 < s.fb.length + 1 := by
  simp [mem_acceptedNotes]

/-- Settles O23: the filter's integer difference is below 2 exactly when the fall comes before `pulse_start + 2`. -/
theorem narrowPulseIgnored : Obligations.NarrowPulseIgnored := by
  intro s td d dv dir p
  refine ⟨fun hdiff => ?_, fun hdiff => ?_⟩
  · have hnarrow : p < s.pulseStart + 2 := by omega
    exact ⟨congrArg Host.Outcome.next (clockFall_of_narrow hnarrow dv dir), noted_clkFall_of_narrow hnarrow td d dv dir⟩
  · have hwide : s.pulseStart + 2 ≤ p := by omega
    rw [noted_clkFall_of_wide hwide]
    refine ⟨glitch_notMem_acceptedNotes s dv dir p, fun hlen => ⟨s.clockFall dv dir p, rfl, ?_⟩⟩
    rw [clockFall_of_wide hwide, if_pos hlen, acceptPulse_length]
    omega

/-- A rise makes its own position the pulse start, so that a fall one unit later is too close to it (R150, R153). -/
theorem clockFall_one_after_clockRise (s : State) (d : Bool) (t : Nat) (dv dir : Bool) :
    (s.clockRise d t).clockFall dv dir (t + 1) = s.clockRise d t := by
  apply clockFall_of_narrow
  rw [State.clockRise_pulseStart]
  omega

/-- Settles O57: of the two steps, the rise's and the fall's, the second changes nothing but the input. -/
theorem glitchPulseKeepsOnlyClockRise : Obligations.GlitchPulseKeepsOnlyClockRise := by
  intro s t d rest hc hi
  have hfall : (s.consume.clockRise d t).input = fallEvent (t + 1) d none :: rest := by simp [hi, glitchEvents]
  have hrest : s.consume.consume = { s with input := rest } := by simp [State.consume, hi, glitchEvents]
  refine run_two (step_rise hc hi) ?_
  rw [step_fall (by simpa using hc) hfall, clockRise_consume, hrest, clockFall_one_after_clockRise]

/-! ### The accepted clock fall (R152, R154 to R158) -/

/-- Settles O24: `a` is the state after the accepted pulse, whose buffer is full exactly when it held eleven bits or more. -/
theorem acceptedClockFallAppendsAndCompletes : Obligations.AcceptedClockFallAppendsAndCompletes := by
  intro s a td d dv dir p hwide ha
  have haccepted : a = s.acceptPulse dv dir p := by
    have hmark : (dv && dir && s.fb.length + 1 == 4) = (dv && s.fb.length + 1 == 4 && dir) := Bool.and_right_comm ..
    rw [ha, hmark, acceptPulse_eq]
    rfl
  have hfall := clockFall_of_wide hwide dv dir
  rw [noted_clkFall_of_wide hwide, haccepted]
  refine ⟨overflow_mem_acceptedNotes_iff, fun hroom => ?_, fun hfull => ⟨?_, ?_⟩⟩
  · rw [if_pos (by omega)] at hfall
    exact congrArg Host.Outcome.next hfall
  · rw [acceptPulse_length]
    omega
  · rw [if_neg (by omega)] at hfall
    rw [exec_decodeFrame, ← hfall]
    rfl

/-! ### Who sets `asic_flag` (R156) -/

/-- No completed frame sets the flag. -/
theorem asicFlag_of_complete {s : State} {endPos : Nat} (h : (s.complete endPos).asicFlag = true) :
    s.asicFlag = true := by
  rcases complete_cases s endPos with ⟨_, _, _, heq⟩ | ⟨_, _, _, heq⟩ | ⟨_, _, heq⟩ | ⟨_, heq⟩ | ⟨_, heq⟩ | ⟨_, heq⟩ <;>
    rw [heq] at h
  · rwa [State.sresetFrame_asicFlag] at h
  · rwa [State.sselFrame_asicFlag] at h
  · rwa [State.sctlFrame_asicFlag] at h
  · cases h
  · rwa [State.nullFrame_asicFlag] at h
  · rwa [State.unclassifiedFrame_asicFlag] at h

/-- An accepted pulse sets the flag only as the fourth bit, with the direction available and high. -/
theorem fourthBit_of_acceptPulse_asicFlag {s : State} {dv dir : Bool} {pos : Nat} (hclear : s.asicFlag = false)
    (hset : (s.acceptPulse dv dir pos).asicFlag = true) : dv = true ∧ dir = true ∧ s.fb.length = 3 := by
  have hmark : (dv = true ∧ s.fb.length = 3) ∧ dir = true := by simpa [acceptPulse_eq, hclear] using hset
  exact ⟨hmark.1.1, hmark.2, hmark.1.2⟩

/-- Settles O25, by the instruction; a completed frame sets no flag, and the pulse that completes one stores a later bit than
the fourth. -/
theorem asicFlagSetOnlyAtFourthBit : Obligations.AsicFlagSetOnlyAtFourthBit := by
  intro i s t h hclear hset
  cases i with
  | evClkFall td d dv dir p =>
    obtain rfl : s.clockFall dv dir p = t := Host.Outcome.next.inj h
    rcases clockFall_cases s dv dir p with ⟨_, heq⟩ | ⟨hwide, _, heq⟩ | ⟨_, hlen, heq⟩ <;> rw [heq] at hset ⊢
    · simp [hclear] at hset
    · obtain ⟨rfl, rfl, hthree⟩ := fourthBit_of_acceptPulse_asicFlag hclear hset
      refine ⟨td, d, p, rfl, hthree, ?_, (narrowPulse_false_iff _ _).mp hwide⟩
      rw [acceptPulse_length, hthree]
      rfl
    · obtain ⟨_, _, hthree⟩ := fourthBit_of_acceptPulse_asicFlag hclear (asicFlag_of_complete hset)
      omega
  | _ =>
    cases h
    simp [hclear] at hset

end Sys2Proof.Machine
end

section
/-!
PROOFS. The family of the frame classes: the classification of a completed frame (R170), what DATA, NULL and UNCLASSIFIED do
(R172 to R175), and which completed frames write the Control Context (R176(c)).
-/

namespace Sys2Proof.Machine

/-! ### The classification (R170) -/

/-- Settles O8: the first two bits select a Control or a Data frame, and with a first bit 0 the zero test decides. -/
theorem classificationByFirstTwoBitsAndZero : Obligations.ClassificationByFirstTwoBitsAndZero :=
  fun w => ⟨classify_of_control, classify_of_data, (classify_null_iff w).mpr, classify_of_unclassified⟩

/-! ### The words of the encoder, as numbers (R94, R102, R105) -/

/-- A field meets no bit of a row that leaves the field's bits free. -/
theorem and_placeField_eq_zero {row : FrameWord} {n lo : Nat} (x : BitVec n) (hrow : row.extractLsb' lo n = 0#n) :
    row &&& placeField x lo = 0 := by
  have hfree (k : Nat) (hk : k < n) : row.getLsbD (lo + k) = false := by
    simpa [BitVec.getLsbD_extractLsb', hk] using congrArg (BitVec.getLsbD · k) hrow
  apply BitVec.eq_of_getLsbD_eq
  intro i hi
  rw [BitVec.getLsbD_and, getLsbD_placeField]
  by_cases hfield : lo ≤ i ∧ i - lo < n
  · obtain ⟨hlo, hk⟩ := hfield
    have hbit := hfree (i - lo) hk
    rw [Nat.add_sub_cancel' hlo] at hbit
    simp [hbit]
  · have hbeyond (hlo : lo ≤ i) : x.getLsbD (i - lo) = false := BitVec.getLsbD_of_ge _ _ (by omega)
    simpa [hi] using fun _ => hbeyond

theorem placeField_eq_ofNat {n : Nat} (x : BitVec n) (lo : Nat) :
    placeField x lo = BitVec.ofNat 12 (2 ^ lo * x.toNat) := by
  apply BitVec.eq_of_toNat_eq
  simp [placeField, Nat.shiftLeft_eq, Nat.mul_comm]

/-- A field placed in a row's free bits adds its value at the weight of its first bit (R13, R105). -/
theorem or_placeField_eq_ofNat {row : FrameWord} {n lo : Nat} (x : BitVec n) (hrow : row.extractLsb' lo n = 0#n) :
    row ||| placeField x lo = BitVec.ofNat 12 (row.toNat + 2 ^ lo * x.toNat) := by
  rw [← BitVec.add_eq_or_of_and_eq_zero _ _ (and_placeField_eq_zero x hrow), placeField_eq_ofNat, BitVec.ofNat_add,
    BitVec.ofNat_toNat, BitVec.setWidth_eq]

/-! ### DATA, NULL and UNCLASSIFIED (R172 to R175, R210 to R215) -/

/-- The channels of a data value in the order of their priority (R212). -/
theorem dataChannel_eq (s : State) (value : ByteField) :
    s.dataChannel value =
      if s.asicFlag = true then .dataAsic value
      else if s.ctx.expectAsic = true ∧ s.opts.showGuess = true then .dataGuess value
      else .dataHost value := by
  simp only [State.dataChannel, Bool.and_eq_true]

/-- Settles O32; the value's span begins at entry 3 and, after bit 10, ends at entry 11 (R98). -/
theorem dataFrameEffect : Obligations.DataFrameEffect := by
  intro s v e e3 e11 h3 h11
  refine ⟨congrArg (Code.frame · e) (or_placeField_eq_ofNat v rfl), ?_⟩
  have hvalue (body : RecordBody) : s.spanRecord 3 10 e body = ⟨e3.pos, e11.pos, body⟩ := by
    rw [State.spanRecord, State.spanEnd, if_pos (by decide), fbPos_of_getElem? h3, fbPos_of_getElem? h11]
  change Host.Outcome.next (s.dataFrame v e) = _
  rw [dataFrame_eq, advanceRun_openRun, hvalue, dataChannel_eq]
  rfl

/-- Settles O33. -/
theorem nullFrameEffect : Obligations.NullFrameEffect :=
  fun s e => ⟨rfl, congrArg Host.Outcome.next (nullFrame_eq s e), rfl⟩

/-- Settles O34. -/
theorem unclassifiedFrameEffect : Obligations.UnclassifiedFrameEffect :=
  fun s raw e => ⟨rfl, congrArg Host.Outcome.next (unclassifiedFrame_eq s raw e), rfl⟩

/-! ### Who writes the Control Context (R176(c)) -/

/-- From `s` to `t` a frame of a type that writes the Control Context was completed at `endPos`: among the records added is
the frame record of a Control or a Data frame, and the buffer is empty (R159, R171, R172). -/
def ContextFrameCompleted (endPos : Nat) (s t : State) : Prop :=
  ∃ rs, t.output = s.output ++ rs ∧
    (Record.mk s.frameStart endPos .ctrlFrame ∈ rs ∨ Record.mk s.frameStart endPos .dataFrame ∈ rs) ∧ t.fb = []

/-- CTRL_FRAME is the first record of a Control frame (R171). -/
theorem contextFrameCompleted_of_controlHead {s t : State} {endPos : Nat} {rs : List Record}
    (hout : t.output = s.output ++ controlHead s endPos ++ rs) (hfb : t.fb = []) : ContextFrameCompleted endPos s t :=
  ⟨controlHead s endPos ++ rs, hout.trans (List.append_assoc ..), .inl List.mem_cons_self, hfb⟩

/-- DATA_FRAME is the first record of a Data frame (R172). -/
theorem contextFrameCompleted_dataFrame (s : State) (value : ByteField) (endPos : Nat) :
    ContextFrameCompleted endPos s (s.dataFrame value endPos) :=
  ⟨_, congrArg State.output (dataFrame_eq ..), .inr List.mem_cons_self, State.dataFrame_fb ..⟩

/-- A completed frame is a Control or a Data frame, or it keeps the Control Context (R173, R174). -/
theorem complete_ctx_cases (s : State) (endPos : Nat) :
    ContextFrameCompleted endPos s (s.complete endPos) ∨ (s.complete endPos).ctx = s.ctx := by
  rcases complete_cases s endPos with ⟨_, _, _, h⟩ | ⟨_, _, _, h⟩ | ⟨_, _, h⟩ | ⟨_, h⟩ | ⟨_, h⟩ | ⟨_, h⟩ <;> rw [h]
  · exact .inl (contextFrameCompleted_of_controlHead (congrArg State.output (sresetFrame_eq ..)) (State.sresetFrame_fb ..))
  · exact .inl (contextFrameCompleted_of_controlHead (congrArg State.output (sselFrame_eq ..)) (State.sselFrame_fb ..))
  · exact .inl (contextFrameCompleted_of_controlHead (congrArg State.output (sctlFrame_eq ..)) (State.sctlFrame_fb ..))
  · exact .inl (contextFrameCompleted_dataFrame ..)
  · exact .inr (State.nullFrame_ctx ..)
  · exact .inr (State.unclassifiedFrame_ctx ..)

/-- The pulse's own records come before those of the frame it completes (R152, R158). -/
theorem ContextFrameCompleted.of_acceptPulse {s t : State} {dv dir : Bool} {pos : Nat}
    (h : ContextFrameCompleted pos (s.acceptPulse dv dir pos) t) : ContextFrameCompleted pos s t := by
  obtain ⟨rs, hout, hframe, hfb⟩ := h
  obtain ⟨pulse, hpulse, _⟩ := acceptPulse_appendsAtMost s dv dir pos
  rw [State.acceptPulse_frameStart] at hframe
  refine ⟨pulse ++ rs, by rw [hout, hpulse, List.append_assoc], ?_, hfb⟩
  exact hframe.imp (List.mem_append_right pulse) (List.mem_append_right pulse)

theorem clockFall_ctx_cases (s : State) (dv dir : Bool) (pos : Nat) :
    ContextFrameCompleted pos s (s.clockFall dv dir pos) ∨ (s.clockFall dv dir pos).ctx = s.ctx := by
  rcases clockFall_cases s dv dir pos with ⟨_, heq⟩ | ⟨_, _, heq⟩ | ⟨_, _, heq⟩ <;> rw [heq]
  · exact .inr rfl
  · exact .inr (State.acceptPulse_ctx ..)
  · exact (complete_ctx_cases _ pos).imp .of_acceptPulse (·.trans (State.acceptPulse_ctx ..))

/-- Settles O37, by the effects of an event: only a clock fall can complete a frame. -/
theorem contextWrittenOnlyByControlAndData : Obligations.ContextWrittenOnlyByControlAndData := by
  intro s t ev rest hi h hne
  cases stepEffect_of_step hi h with
  | nothing | leaveSkip | enterSkip => exact absurd rfl hne
  | clockRise => exact absurd (State.clockRise_ctx ..) hne
  | clockFall => exact (clockFall_ctx_cases s.consume ev.dv ev.dir ev.pos).resolve_right hne

end Sys2Proof.Machine
end

section
/-!
PROOFS. The family of the Control fields: the records and the Control Context writes of SRESET, SSEL and SCTL (R171, R191 to
R193, R195, R214), and who writes `expect_asic` (R194).
-/

namespace Sys2Proof.Machine

/-! ### Who writes `expect_asic` (R194) -/

@[simp] theorem State.sresetFrame_expectAsic (s : State) (addr : Addr) (e : Nat) :
    (s.sresetFrame addr e).ctx.expectAsic = false := by
  rw [sresetFrame_eq]

@[simp] theorem State.sselFrame_expectAsic (s : State) (addr : Addr) (e : Nat) :
    (s.sselFrame addr e).ctx.expectAsic = (addr != 0) := by
  rw [sselFrame_eq]

@[simp] theorem State.sctlFrame_expectAsic (s : State) (sm bw rw : Bool) (reg : RegNum) (e : Nat) :
    (s.sctlFrame sm bw rw reg e).ctx.expectAsic = (rw == s.par.rwRead) := by
  rw [sctlFrame_eq]

@[simp] theorem State.dataFrame_expectAsic (s : State) (value : ByteField) (e : Nat) :
    (s.dataFrame value e).ctx.expectAsic = s.ctx.expectAsic := by
  rw [dataFrame_eq, advanceRun_openRun]

theorem ctrlFrame_mem_of_controlHead {s t : State} {endPos : Nat} {rs : List Record}
    (hout : t.output = s.output ++ controlHead s endPos ++ rs) : Record.mk s.frameStart endPos .ctrlFrame ∈ t.output := by
  rw [hout]
  exact List.mem_append_left rs (List.mem_append_right s.output List.mem_cons_self)

/-- A completed frame is a Control frame, which emits CTRL_FRAME, or it keeps `expect_asic` (R171 to R174). -/
theorem complete_expectAsic_cases (s : State) (endPos : Nat) :
    Record.mk s.frameStart endPos .ctrlFrame ∈ (s.complete endPos).output ∨
      (s.complete endPos).ctx.expectAsic = s.ctx.expectAsic := by
  rcases complete_cases s endPos with ⟨_, _, _, h⟩ | ⟨_, _, _, h⟩ | ⟨_, _, h⟩ | ⟨_, h⟩ | ⟨_, h⟩ | ⟨_, h⟩ <;> rw [h]
  · exact .inl (ctrlFrame_mem_of_controlHead (congrArg State.output (sresetFrame_eq ..)))
  · exact .inl (ctrlFrame_mem_of_controlHead (congrArg State.output (sselFrame_eq ..)))
  · exact .inl (ctrlFrame_mem_of_controlHead (congrArg State.output (sctlFrame_eq ..)))
  · exact .inr (State.dataFrame_expectAsic ..)
  · exact .inr (congrArg _ (State.nullFrame_ctx ..))
  · exact .inr (congrArg _ (State.unclassifiedFrame_ctx ..))

theorem clockFall_expectAsic_cases (s : State) (dv dir : Bool) (pos : Nat) :
    Record.mk s.frameStart pos .ctrlFrame ∈ (s.clockFall dv dir pos).output ∨
      (s.clockFall dv dir pos).ctx.expectAsic = s.ctx.expectAsic := by
  rcases clockFall_cases s dv dir pos with ⟨_, heq⟩ | ⟨_, _, heq⟩ | ⟨_, _, heq⟩ <;> rw [heq]
  · exact .inr rfl
  · exact .inr (congrArg _ (State.acceptPulse_ctx ..))
  · simpa using complete_expectAsic_cases (s.acceptPulse dv dir pos) pos

/-- Settles O36, by the instruction; of the completed frames only a Control frame writes `expect_asic`. -/
theorem expectAsicWrittenByControlFrames : Obligations.ExpectAsicWrittenByControlFrames := by
  refine ⟨?sreset, ?deselect, ?select, ?sctl, ?others⟩
  case sreset =>
    intro s t addr e h
    cases h
    exact State.sresetFrame_expectAsic ..
  case deselect =>
    intro s t e h
    cases h
    exact State.sselFrame_expectAsic ..
  case select =>
    intro s t addr e hne h
    cases h
    exact (State.sselFrame_expectAsic ..).trans (bne_iff_ne.mpr hne)
  case sctl =>
    intro s t sm bw rw reg e h
    cases h
    have hexpect := State.sctlFrame_expectAsic s sm bw rw reg e
    exact ⟨fun hread => hexpect.trans (beq_iff_eq.mpr hread), fun hwrite => hexpect.trans (beq_eq_false_iff_ne.mpr hwrite)⟩
  case others =>
    intro i s t h hne
    cases i with
    | sreset addr e => exact .inl ⟨addr, e, .inl rfl⟩
    | ssel addr e => exact .inl ⟨addr, e, .inr rfl⟩
    | sctl sm bw rw reg e => exact .inr (.inl ⟨sm, bw, rw, reg, e, rfl⟩)
    | evClkFall td d dv dir p =>
      cases h
      exact .inr (.inr ⟨td, d, dv, dir, p, rfl, (clockFall_expectAsic_cases s dv dir p).resolve_right hne⟩)
    | data v e =>
      cases h
      exact absurd (State.dataFrame_expectAsic ..) hne
    | unclassified raw e =>
      cases h
      exact absurd (congrArg _ (State.unclassifiedFrame_ctx ..)) hne
    | evClkRise td d dv dir p =>
      cases h
      exact absurd (congrArg _ (State.clockRise_ctx ..)) hne
    | _ =>
      cases h
      exact absurd rfl hne

/-! ### The records and the run registers of a Control frame (R98, R171, R214) -/

theorem clearRun_eq (c : ControlContext) :
    c.clearRun =
      { c with
        runOpen := false
        runCount := if c.runOpen then 0 else c.runCount
        runStart := if c.runOpen then 0 else c.runStart } := by
  obtain ⟨_, _, _, runOpen, _, _, _⟩ := c
  cases runOpen <;> rfl

/-- The first records of a Control frame, written out (R171, R214). -/
theorem output_append_controlHead (s : State) (endPos : Nat) :
    s.output ++ controlHead s endPos =
      s.output ++ [⟨s.frameStart, endPos, .ctrlFrame⟩] ++
        (if s.ctx.runOpen then [⟨s.ctx.runStart, s.ctx.runEnd, .runCount s.ctx.runCount⟩] else []) :=
  List.append_cons ..

/-- A span that does not reach bit 11 ends where the next bit begins (R98). -/
theorem spanRecord_of_getElem? {s : State} {lo hi : Nat} {first next : Entry} (hhi : hi < 11)
    (hfirst : s.fb[lo]? = some first) (hnext : s.fb[hi + 1]? = some next) (endPos : Nat) (body : RecordBody) :
    s.spanRecord lo hi endPos body = ⟨first.pos, next.pos, body⟩ := by
  rw [State.spanRecord, State.spanEnd, if_pos hhi, fbPos_of_getElem? hfirst, fbPos_of_getElem? hnext]

theorem selRstRecords_of_getElem? {s : State} {e3 e9 : Entry} (h3 : s.fb[3]? = some e3) (h9 : s.fb[9]? = some e9)
    (sel : Bool) (addr : Addr) (endPos : Nat) :
    s.selRstRecords sel addr endPos =
      [⟨s.frameStart, endPos, .selRst sel⟩, ⟨e3.pos, e9.pos, .slaveAddr addr⟩] := by
  rw [State.selRstRecords, spanRecord_of_getElem? (by decide) h3 h9, State.frameRecord]

/-- Settles O29; the address's span begins at entry 3 and, after bit 8, ends at entry 9 (R98). -/
theorem sresetFrameEffect : Obligations.SresetFrameEffect := by
  intro s addr e e3 e9 h3 h9
  refine ⟨congrArg (Code.frame · e) (or_placeField_eq_ofNat addr rfl), ?_⟩
  change Host.Outcome.next (s.sresetFrame addr e) = _
  rw [sresetFrame_eq, clearRun_eq, output_append_controlHead, selRstRecords_of_getElem? h3 h9]

/-- An address is the deselect's exactly where its value is 0 (R192). -/
theorem addr_bne_zero (addr : Addr) : (addr != 0) = decide (addr.toNat ≠ 0) := by
  rw [Bool.eq_iff_iff, bne_iff_ne, decide_eq_true_iff]
  exact not_congr BitVec.toNat_inj.symm

/-- Settles O30; SSEL shares SRESET's records but for the flag of SEL_RST. -/
theorem sselFrameEffect : Obligations.SselFrameEffect := by
  intro s addr e e3 e9 h3 h9
  refine ⟨congrArg (Code.frame · e) (or_placeField_eq_ofNat addr rfl), ?_⟩
  change Host.Outcome.next (s.sselFrame addr e) = _
  rw [sselFrame_eq, clearRun_eq, output_append_controlHead, selRstRecords_of_getElem? h3 h9, addr_bne_zero]

/-! ### The word of a SCTL, as a number (R95, R105) -/

/-- A field placed below is not seen (R105). -/
theorem extractLsb'_or_placeField_below {row : FrameWord} {lo n m : Nat} (x : BitVec m) {lo' : Nat} (h : lo' + m ≤ lo) :
    (row ||| placeField x lo').extractLsb' lo n = row.extractLsb' lo n := by
  apply BitVec.eq_of_getLsbD_eq
  intro i _
  have hbeyond : x.getLsbD (lo + i - lo') = false := BitVec.getLsbD_of_ge _ _ (by omega)
  simp [-BitVec.getLsbD_eq_getElem, getLsbD_placeField, hbeyond]

theorem sctlWord_eq_ofNat (sm bw rw : Bool) (reg : RegNum) :
    sctlWord sm bw rw reg = BitVec.ofNat 12 (0x401 + 8 * reg.toNat + 128 * sm.toNat + 256 * bw.toNat + 512 * rw.toNat) := by
  have hsm : (0x401 ||| placeField reg 3 : FrameWord).extractLsb' 7 1 = 0 :=
    extractLsb'_or_placeField_below reg (by decide)
  have hbw : (0x401 ||| placeField reg 3 ||| placeField (BitVec.ofBool sm) 7 : FrameWord).extractLsb' 8 1 = 0 := by
    rw [extractLsb'_or_placeField_below _ (by decide), extractLsb'_or_placeField_below _ (by decide)]
    rfl
  have hrw : (0x401 ||| placeField reg 3 ||| placeField (BitVec.ofBool sm) 7
      ||| placeField (BitVec.ofBool bw) 8 : FrameWord).extractLsb' 9 1 = 0 := by
    rw [extractLsb'_or_placeField_below _ (by decide), extractLsb'_or_placeField_below _ (by decide),
      extractLsb'_or_placeField_below _ (by decide)]
    rfl
  rw [sctlWord, or_placeField_eq_ofNat _ hrw, or_placeField_eq_ofNat _ hbw, or_placeField_eq_ofNat _ hsm,
    or_placeField_eq_ofNat reg (by rfl)]
  apply BitVec.eq_of_toNat_eq
  simp

/-! ### SCTL (R193) -/

theorem sctlRecords_of_getElem? {s : State} {e3 e7 e8 e9 e10 e11 : Entry} (h3 : s.fb[3]? = some e3)
    (h7 : s.fb[7]? = some e7) (h8 : s.fb[8]? = some e8) (h9 : s.fb[9]? = some e9) (h10 : s.fb[10]? = some e10)
    (h11 : s.fb[11]? = some e11) (sm bw rw : Bool) (reg : RegNum) (endPos : Nat) :
    s.sctlRecords sm bw rw reg endPos =
      [⟨s.frameStart, endPos, .sctl⟩, ⟨e3.pos, e7.pos, .regNum reg⟩, ⟨e7.pos, e8.pos, .modeSm sm⟩,
        ⟨e8.pos, e9.pos, .modeBw bw⟩, ⟨e9.pos, e10.pos, .modeRw rw⟩, ⟨e3.pos, e11.pos, .modeSummary sm bw rw reg⟩] := by
  rw [State.sctlRecords, spanRecord_of_getElem? (by decide) h3 h7, spanRecord_of_getElem? (by decide) h7 h8,
    spanRecord_of_getElem? (by decide) h8 h9, spanRecord_of_getElem? (by decide) h9 h10,
    spanRecord_of_getElem? (by decide) h3 h11, State.frameRecord]

/-- Settles O31; each mode bit's span ends where the next bit begins, the summary's at entry 11 (R98). -/
theorem sctlFrameEffect : Obligations.SctlFrameEffect := by
  intro s sm bw rw reg e e3 e7 e8 e9 e10 e11 h3 h7 h8 h9 h10 h11
  refine ⟨(encode_sctl sm bw rw reg e).trans (congrArg (Code.frame · e) (sctlWord_eq_ofNat sm bw rw reg)), ?_⟩
  change Host.Outcome.next (s.sctlFrame sm bw rw reg e) = _
  rw [sctlFrame_eq, clearRun_eq, output_append_controlHead, sctlRecords_of_getElem? h3 h7 h8 h9 h10 h11]
  rfl

end Sys2Proof.Machine
end

section
/-!
PROOFS. The family of the data accounting: what a Data frame does to the run registers (R213 to R216), and the two facts of
R217 about the counts published. `RunEffect` says once what an operation does to the run's count together with the records
that count: of all records only DATA_FRAME and RUN_COUNT do, and `runRecords` selects them.
-/

namespace Sys2Proof.Machine

/-! ### The run registers after a Data frame (R213, R215, R216) -/

/-- Settles O35. -/
theorem dataFrameAdvancesRunAndSaturates : Obligations.DataFrameAdvancesRunAndSaturates := by
  intro s v e
  refine ⟨s.dataFrame v e, rfl, ?_⟩
  rw [dataFrame_eq, advanceRun_openRun]
  exact ⟨rfl, rfl, saturatingSucc_eq .., fun hclosed => if_neg (Bool.eq_false_iff.mp hclosed), fun hopen => if_pos hopen,
    rfl, rfl, rfl⟩

/-! ### The records that count Data frames (R98, R172, R217) -/

/-- The record is a DATA_FRAME or a RUN_COUNT. -/
def Record.isRun (r : Record) : Bool :=
  match r.body with
  | .dataFrame | .runCount _ => true
  | _ => false

theorem isRun_of_dataFrame {r : Record} (h : r.body = .dataFrame) : r.isRun = true := by
  rw [Record.isRun, h]

theorem isRun_of_runCount {r : Record} {n : Nat} (h : r.body = .runCount n) : r.isRun = true := by
  rw [Record.isRun, h]

/-- The DATA_FRAME and RUN_COUNT records, in the order of their emission. -/
def runRecords (rs : List Record) : List Record := rs.filter Record.isRun

theorem runRecords_append (rs rs' : List Record) : runRecords (rs ++ rs') = runRecords rs ++ runRecords rs' :=
  List.filter_append ..

/-- Records of other kinds appended after `rs` do not count. -/
theorem runRecords_append_of_not_isRun {rs rs' : List Record} (h : ∀ r ∈ rs', r.isRun = false) :
    runRecords (rs ++ rs') = runRecords rs := by
  have hnone : runRecords rs' = [] := List.filter_eq_nil_iff.mpr fun r hr => Bool.eq_false_iff.mp (h r hr)
  rw [runRecords_append, hnone, List.append_nil]

theorem published_of_not_isRun {r : Record} (h : r.isRun = false) : r.published = 0 :=
  published_eq_zero fun _ hbody => absurd (isRun_of_runCount hbody) (Bool.eq_false_iff.mp h)

theorem publishedCount_append (rs rs' : List Record) :
    publishedCount (rs ++ rs') = publishedCount rs + publishedCount rs' := by
  simp [publishedCount]

theorem dataFrameCount_append (rs rs' : List Record) :
    dataFrameCount (rs ++ rs') = dataFrameCount rs + dataFrameCount rs' :=
  List.countP_append

/-- The published counts are those of the records that count. -/
theorem publishedCount_runRecords (rs : List Record) : publishedCount (runRecords rs) = publishedCount rs := by
  induction rs with
  | nil => rfl
  | cons r rs ih =>
    rw [← List.singleton_append, runRecords_append, publishedCount_append, publishedCount_append, ih]
    cases hrun : r.isRun with
    | true => simp [runRecords, hrun]
    | false => simp [runRecords, publishedCount, hrun, published_of_not_isRun hrun]

/-- The Data frames counted are those among the records that count. -/
theorem dataFrameCount_runRecords (rs : List Record) : dataFrameCount (runRecords rs) = dataFrameCount rs := by
  rw [dataFrameCount, runRecords, List.countP_filter, dataFrameCount]
  refine List.countP_congr fun r _ => ?_
  rw [Bool.and_eq_true]
  exact and_iff_left_of_imp fun h => isRun_of_dataFrame (beq_iff_eq.mp h)

/-- Two outputs differ in both sums by the records that count added between them. -/
theorem counts_of_runRecords {rs rs' added : List Record} (h : runRecords rs' = runRecords rs ++ added) :
    publishedCount rs' = publishedCount rs + publishedCount added ∧
      dataFrameCount rs' = dataFrameCount rs + dataFrameCount added := by
  rw [← publishedCount_runRecords rs', ← dataFrameCount_runRecords rs', h, publishedCount_append, dataFrameCount_append,
    publishedCount_runRecords, dataFrameCount_runRecords]
  exact ⟨rfl, rfl⟩

/-! ### What an operation does to the run's count and to those records (R171, R172, R214) -/

/-- From `s` to `t` the run's count and the records that count are kept, or an open run is closed and its count published, or
a Data frame is recorded and counted. -/
inductive RunEffect (s t : State) : Prop
  | kept (hrecords : runRecords t.output = runRecords s.output) (hcount : t.ctx.runCount = s.ctx.runCount)
  | closed (hopen : s.ctx.runOpen = true)
      (hrecords : runRecords t.output = runRecords s.output ++ [s.ctx.runRecord]) (hcount : t.ctx.runCount = 0)
  | counted (endPos : Nat) (hrecords : runRecords t.output = runRecords s.output ++ [s.frameRecord endPos .dataFrame])
      (hcount : t.ctx.runCount = saturatingSucc s.par.cntW s.ctx.runCount)

/-- CLK and BIT do not count (R152, R155). -/
theorem acceptPulse_runRecords (s : State) (dv dir : Bool) (pos : Nat) :
    runRecords (s.acceptPulse dv dir pos).output = runRecords s.output := by
  have hpulse {b : Bool} {body : RecordBody} (hbody : (s.pulseRecord pos body).isRun = false) :
      ∀ r ∈ recordsIf b [s.pulseRecord pos body], r.isRun = false := by
    intro r hr
    rwa [List.mem_singleton.mp (mem_recordsIf.mp hr).2]
  rw [acceptPulse_eq, runRecords_append_of_not_isRun (hpulse rfl), runRecords_append_of_not_isRun (hpulse rfl)]

/-- An accepted pulse before an operation adds nothing to what that operation does to the run (R152). -/
theorem RunEffect.of_acceptPulse {s t : State} {dv dir : Bool} {pos : Nat} (h : RunEffect (s.acceptPulse dv dir pos) t) :
    RunEffect s t := by
  have hpulse := acceptPulse_runRecords s dv dir pos
  have hctx := State.acceptPulse_ctx s dv dir pos
  cases h with
  | kept hrecords hcount => exact .kept (hrecords.trans hpulse) (by rw [hcount, hctx])
  | closed hopen hrecords hcount =>
    rw [hctx] at hopen hrecords
    exact .closed hopen (by rw [hrecords, hpulse]) hcount
  | counted endPos hrecords hcount =>
    rw [hctx, State.acceptPulse_par] at hcount
    rw [State.frameRecord, State.acceptPulse_frameStart, hpulse] at hrecords
    exact .counted endPos hrecords hcount

/-- CTRL_FRAME does not count; the record of an open run does (R171, R214). -/
theorem runRecords_controlHead (s : State) (endPos : Nat) :
    runRecords (controlHead s endPos) = recordsIf s.ctx.runOpen [s.ctx.runRecord] := by
  have hhead : runRecords (controlHead s endPos) = runRecords (recordsIf s.ctx.runOpen [s.ctx.runRecord]) := rfl
  rw [hhead]
  cases s.ctx.runOpen <;> rfl

/-- A Control frame closes an open run; none of its fields' records counts (R171, R214). -/
theorem runEffect_of_controlHead {s t : State} {endPos : Nat} {rs : List Record}
    (hout : t.output = s.output ++ controlHead s endPos ++ rs) (hrs : ∀ r ∈ rs, r.isRun = false)
    (hcount : t.ctx.runCount = s.ctx.clearRun.runCount) : RunEffect s t := by
  rw [clearRun_runCount] at hcount
  have hrecords : runRecords t.output = runRecords s.output ++ recordsIf s.ctx.runOpen [s.ctx.runRecord] := by
    rw [hout, runRecords_append_of_not_isRun hrs, runRecords_append, runRecords_controlHead]
  cases hopen : s.ctx.runOpen with
  | true =>
    rw [hopen] at hrecords hcount
    exact .closed hopen hrecords hcount
  | false =>
    rw [hopen, recordsIf_false, List.append_nil] at hrecords
    rw [hopen] at hcount
    exact .kept hrecords hcount

theorem selRstRecords_not_isRun (s : State) (sel : Bool) (addr : Addr) (endPos : Nat) :
    ∀ r ∈ s.selRstRecords sel addr endPos, r.isRun = false := by
  simp only [State.selRstRecords, List.forall_mem_cons]
  exact ⟨rfl, rfl, nofun⟩

theorem sctlRecords_not_isRun (s : State) (sm bw rw : Bool) (reg : RegNum) (endPos : Nat) :
    ∀ r ∈ s.sctlRecords sm bw rw reg endPos, r.isRun = false := by
  simp only [State.sctlRecords, List.forall_mem_cons]
  exact ⟨rfl, rfl, rfl, rfl, rfl, rfl, nofun⟩

/-- A data value is on one of the three channels, none of which counts (R212). -/
theorem dataChannel_not_isRun (s : State) (value : ByteField) (lo hi endPos : Nat) :
    (s.spanRecord lo hi endPos (s.dataChannel value)).isRun = false := by
  unfold State.dataChannel
  repeat' split
  all_goals rfl

/-- A Data frame is recorded once and counted once (R172, R215). -/
theorem runEffect_dataFrame (s : State) (value : ByteField) (endPos : Nat) : RunEffect s (s.dataFrame value endPos) := by
  have hvalue : ∀ r ∈ [s.spanRecord 3 10 endPos (s.dataChannel value)], r.isRun = false :=
    List.forall_mem_singleton.mpr (dataChannel_not_isRun s value 3 10 endPos)
  rw [dataFrame_eq, advanceRun_openRun]
  refine .counted endPos ?_ rfl
  rw [List.append_cons, runRecords_append_of_not_isRun hvalue, runRecords_append]
  rfl

/-- NULL_FRAME and RAW_FRAME do not count, and their frames leave the Control Context (R173, R174). -/
theorem runEffect_complete (s : State) (endPos : Nat) : RunEffect s (s.complete endPos) := by
  rcases complete_cases s endPos with ⟨_, _, _, h⟩ | ⟨_, _, _, h⟩ | ⟨_, _, h⟩ | ⟨_, h⟩ | ⟨_, h⟩ | ⟨_, h⟩ <;> rw [h]
  · rw [sresetFrame_eq]
    exact runEffect_of_controlHead rfl (selRstRecords_not_isRun s _ _ _) rfl
  · rw [sselFrame_eq]
    exact runEffect_of_controlHead rfl (selRstRecords_not_isRun s _ _ _) rfl
  · rw [sctlFrame_eq]
    exact runEffect_of_controlHead rfl (sctlRecords_not_isRun s _ _ _ _ _) rfl
  · exact runEffect_dataFrame ..
  · rw [nullFrame_eq]
    exact .kept (runRecords_append_of_not_isRun (List.forall_mem_singleton.mpr rfl)) rfl
  · have hraw : ∀ r ∈ recordsIf s.opts.showDebug [s.frameRecord endPos (.rawFrame s.frameWord)], r.isRun = false := by
      intro r hr
      rw [List.mem_singleton.mp (mem_recordsIf.mp hr).2]
      rfl
    rw [unclassifiedFrame_eq]
    exact .kept (runRecords_append_of_not_isRun hraw) rfl

theorem runEffect_clockFall (s : State) (dv dir : Bool) (pos : Nat) : RunEffect s (s.clockFall dv dir pos) := by
  rcases clockFall_cases s dv dir pos with ⟨_, heq⟩ | ⟨_, _, heq⟩ | ⟨_, _, heq⟩ <;> rw [heq]
  · exact .kept rfl rfl
  · exact .kept (acceptPulse_runRecords ..) (by rw [State.acceptPulse_ctx])
  · exact .of_acceptPulse (runEffect_complete _ pos)

/-- Of the effects of an event only a clock fall's can touch the run (R176(c)). -/
theorem StepEffect.runEffect {s t : State} {ev : Event} (h : StepEffect s ev t) : RunEffect s.consume t := by
  cases h with
  | nothing | leaveSkip | enterSkip => exact .kept rfl rfl
  | clockRise => exact .kept (by rw [State.clockRise_output]) (by rw [State.clockRise_ctx])
  | clockFall => exact runEffect_clockFall ..

/-! ### The accounting (R217) -/

/-- Closing a run moves its count to the published ones. A Data frame adds one to both sides: below saturation the count, being
at most the number of Data frames before this one, has room for it. -/
theorem RunEffect.accounted {s t : State} (h : RunEffect s t) (hpar : t.par = s.par) (hs : s.Accounted) : t.Accounted := by
  intro hbelow
  rw [hpar] at hbelow
  cases h with
  | kept hrecords hcount =>
    obtain ⟨hpublished, hframes⟩ := counts_of_runRecords (hrecords.trans (List.append_nil _).symm)
    have hbefore := hs (by omega)
    rw [hpublished, hframes, hcount]
    exact hbefore
  | closed _ hrecords hcount =>
    obtain ⟨hpublished, hframes⟩ := counts_of_runRecords hrecords
    have hrun : publishedCount [s.ctx.runRecord] = s.ctx.runCount := rfl
    have hnoFrame : dataFrameCount [s.ctx.runRecord] = 0 := rfl
    have hbefore := hs (by omega)
    omega
  | counted endPos hrecords hcount =>
    obtain ⟨hpublished, hframes⟩ := counts_of_runRecords hrecords
    have hnoCount : publishedCount [s.frameRecord endPos .dataFrame] = 0 := rfl
    have hframe : dataFrameCount [s.frameRecord endPos .dataFrame] = 1 := rfl
    have hbefore := hs (by omega)
    have hroom : saturatingSucc s.par.cntW s.ctx.runCount = s.ctx.runCount + 1 := saturatingSucc_of_lt (by omega)
    omega

/-- Settles O51, by what each effect of an event does to the run's count and to the records that count. -/
theorem stepKeepsDataFrameAccounting : Obligations.StepKeepsDataFrameAccounting := by
  intro s t hs h
  rcases stepEffect_or_eq h with rfl | ⟨_, _, heffect⟩
  · exact hs
  · have hconsumed : s.consume.Accounted := hs
    exact heffect.runEffect.accounted heffect.par_eq hconsumed

/-- A record added is a DATA_FRAME or that of an open run, whose count I5 keeps from being 0 (R51, R214). -/
theorem RunEffect.runCount_ne_zero {s t : State} (h : RunEffect s t) (hrun : s.openIffCounted)
    (hs : ∀ r ∈ s.output, r.body ≠ .runCount 0) : ∀ r ∈ t.output, r.body ≠ .runCount 0 := by
  intro r hr hzero
  have hheld : r ∉ runRecords s.output := fun hmem => hs r (List.mem_of_mem_filter hmem) hzero
  have hmem : r ∈ runRecords t.output := List.mem_filter.mpr ⟨hr, isRun_of_runCount hzero⟩
  cases h with
  | kept hrecords => exact hheld (hrecords ▸ hmem)
  | closed hopen hrecords =>
    rw [hrecords, List.mem_append, List.mem_singleton] at hmem
    have hbody : s.ctx.runRecord.body = .runCount 0 := hmem.resolve_left hheld ▸ hzero
    exact hrun.mp hopen (RecordBody.runCount.inj hbody)
  | counted endPos hrecords =>
    rw [hrecords, List.mem_append, List.mem_singleton] at hmem
    have hbody : (s.frameRecord endPos .dataFrame).body = .runCount 0 := hmem.resolve_left hheld ▸ hzero
    cases hbody

/-- Settles O42: the only RUN_COUNT a step adds is that of an open run, which has counted. -/
theorem runCountRecordNeverZero : Obligations.RunCountRecordNeverZero := by
  intro s t hinv hs h
  obtain ⟨_, _, _, hrun, _⟩ := hinv
  rcases stepEffect_or_eq h with rfl | ⟨_, _, heffect⟩
  · exact hs
  · have hconsumed : s.consume.openIffCounted := hrun
    exact heffect.runEffect.runCount_ne_zero hconsumed hs

end Sys2Proof.Machine
end

section
/-!
PROOFS. The family of RESET (R50, R260): the state it leaves is `State.reset` but for the parameters and the two streams,
which are no elements of the framer.
-/

namespace Sys2Proof.Machine

theorem exists_eq_reset_with_streams {s t : State} (h : t = s.resetByHost ∨ t = State.reset) :
    ∃ par input output, t = { State.reset with par := par, input := input, output := output } := by
  rcases h with hbyHost | hatStart
  · exact ⟨s.par, s.input, s.output, hbyHost⟩
  · exact ⟨State.reset.par, State.reset.input, State.reset.output, hatStart⟩

@[simp] theorem State.resetByHost_output (s : State) : s.resetByHost.output = s.output := rfl

/-- Settles O44: the elements are read off `State.reset`, with which both states agree outside the parameters and streams. -/
theorem resetGivesEveryElementItsValue : Obligations.ResetGivesEveryElementItsValue := by
  intro s t h
  obtain ⟨par, input, output, rfl⟩ := exists_eq_reset_with_streams h
  simp [State.reset, ControlContext.reset, Options.reset]

end Sys2Proof.Machine
end
